-- ==== Sys2Proof/Word.lean ====
section
/-!
DEFINITION. The word types of the engine (00_scope.md R8, R10): 32-bit words, 8-bit bytes, 6-bit offsets of the
64-byte register window (20_memory.md R35).
-/

namespace Sys2Proof

/-- A 32-bit pattern with no intrinsic sign (00_scope.md R8, R10). -/
abbrev Word := BitVec 32

/-- An input element of the hashes (00_scope.md R8). -/
abbrev Byte := BitVec 8

/-- A byte offset into the 64-byte register window, 0x00 to 0x3F (20_memory.md R35). -/
abbrev Offset := BitVec 6

end Sys2Proof
end

