-- ==== Sys2Proof/Bus.lean ====
section
/-!
DEFINITION. What the host and the platform can do to the engine, as data (20_memory.md R37, R38, R52;
70_reset_and_hazards.md R133; 60_exceptions.md R131), and what the bus answers. The functions over these types are in
Sys2Proof/Machine/Window.lean.
-/

namespace Sys2Proof

/-- The named registers of the window (20_memory.md R38). -/
inductive RegName where
  | id
  | cmd
  | status
  | seed
  | result
  | len
  | acc
  | a
  | b
  | c
  deriving DecidableEq, Repr

/-- The "access" column of 20_memory.md R38. -/
inductive RegAccess where
  | readOnly
  | writeOnly
  | readWrite
  | readWriteInIdle
  deriving DecidableEq, Repr

/-- The widths a host access may have (20_memory.md R37). -/
inductive AccessWidth where
  | w8
  | w16
  | w32
  | w64
  deriving DecidableEq, Repr

/-- One host access to the window, by its offset in the window (00_scope.md R12, log 12). The data of a write of another
width than 32 bits is of no consequence: R37 answers it with a bus error (log 21). -/
inductive BusAccess where
  /-- `RegRead(off)` when the width is 32 bits. -/
  | read (width : AccessWidth) (off : Offset)
  /-- `RegWrite(off, v)` when the width is 32 bits. -/
  | write (width : AccessWidth) (off : Offset) (data : Word)
  deriving DecidableEq, Repr

/-- What reaches the engine from outside, one at a time (20_memory.md R50). -/
inductive BusEvent where
  /-- An access of the host (20_memory.md R52). -/
  | access (a : BusAccess)
  /-- Reset is asserted and released; `overlapping` is the access it overlaps, if any (70_reset_and_hazards.md R133). -/
  | reset (overlapping : Option BusAccess)
  /-- Power is lost and comes back; reset has not been asserted yet (60_exceptions.md R131, 70_reset_and_hazards.md R136). -/
  | powerLoss
  deriving DecidableEq, Repr

/-- What the bus answered to an access that completed (20_memory.md R39, R41, R52). -/
inductive BusResponse where
  /-- The value a read returned. -/
  | readData (v : Word)
  /-- The completion of a write. -/
  | writeDone
  /-- Whatever the host saw of an access that overlapped reset: `v` is a free value (70_reset_and_hazards.md R133). -/
  | overlapped (v : Word)
  deriving DecidableEq, Repr

end Sys2Proof
end

