-- ==== Sys2Proof/Assembly.lean ====
section
/-!
DEFINITION. The abstract syntax of one line of the assembler notation (30_encoding.md R66, R67, R68). Its meaning is in
Sys2Proof/Machine/Assembler.lean, its text form in Sys2Proof/Machine/AssemblyText.lean. Operands are as written, before
any range check: WellFormed.lean says which lines are well formed.
-/

namespace Sys2Proof

/-- One line of source. -/
inductive AsmLine where
  | nop
  | oaatStart
  | oaatByte (imm8 : Int)
  | oaatFinish
  /-- `L2_START` with no operand, or with the operand written. -/
  | l2Start (s : Option Int)
  | l2Byte (imm8 : Int)
  | l2Finish
  | mix
  | clrErr
  /-- `.word imm32`: a command word by its number (R70, 95_test_vectors.md P4; log 17). -/
  | word (imm32 : Int)
  /-- `wr NAME, imm32` (R67). -/
  | wr (name : RegName) (imm32 : Int)
  /-- `rd NAME` or `rd NAME -> x` (R67). -/
  | rd (name : RegName) (dest : Option (List Char))
  /-- `OAAT_STR "text"` (R68). -/
  | oaatStr (text : List Char)
  /-- `L2_STR "text"` or `L2_STR "text", seed` (R68). -/
  | l2Str (text : List Char) (seed : Option Int)
  /-- `OAAT_BYTES b0, b1, ...` (R68). -/
  | oaatBytes (imms : List Int)
  /-- `L2_BYTES b0, b1, ...` (R68). -/
  | l2Bytes (imms : List Int)
  /-- `MIX3 a, b, c` (R68). -/
  | mix3 (a b c : Int)
  deriving DecidableEq, Repr

end Sys2Proof
end

