-- ==== Sys2Proof/Syntax.lean ====
section
/-!
DEFINITION. The nine commands of spec/opcode_table.json (30_encoding.md R61), one constructor per row.
-/

namespace Sys2Proof

/-- A decoded command. The operand types admit exactly the values the encodings carry: `BYTE` is 8 bits (R59), `S` is
one bit (R60). -/
inductive Instr where
  /-- `NOP` (43_control.md R108). -/
  | nop
  /-- `OAAT_START` (41_oaat.md R81). -/
  | oaatStart
  /-- `OAAT_BYTE imm8` (41_oaat.md R82). -/
  | oaatByte (byte : Byte)
  /-- `OAAT_FINISH` (41_oaat.md R84). -/
  | oaatFinish
  /-- `L2_START [s]` (42_lookup2.md R93); `seeded` is the bit `S`. -/
  | l2Start (seeded : Bool)
  /-- `L2_BYTE imm8` (42_lookup2.md R95). -/
  | l2Byte (byte : Byte)
  /-- `L2_FINISH` (42_lookup2.md R97). -/
  | l2Finish
  /-- `MIX` (40_mix.md R78). -/
  | mix
  /-- `CLR_ERR` (43_control.md R109). -/
  | clrErr
  deriving DecidableEq, Repr

end Sys2Proof
end

