-- ==== Sys2Proof/WellFormed.lean ====
section
/-!
DEFINITION. Well-formedness. An `Instr` is well formed by its types (every operand value is one an encoding carries), so
`Instr.wf` holds of every command; the checks that can fail are those on a host access (20_memory.md R37) and on a line
of assembler source (30_encoding.md R59, R66, R67).
-/

namespace Sys2Proof

/-- Every command is well formed: `BYTE` is 8 bits and `S` one bit by type (30_encoding.md R57, R59, R60). -/
def Instr.wf : Instr → Bool
  | .nop => true
  | .oaatStart => true
  | .oaatByte _ => true
  | .oaatFinish => true
  | .l2Start _ => true
  | .l2Byte _ => true
  | .l2Finish => true
  | .mix => true
  | .clrErr => true

/-- A 32-bit access at an offset that is a multiple of 4 (20_memory.md R37). -/
def accessWf (width : AccessWidth) (off : Offset) : Bool :=
  width == .w32 && off.toNat % 4 == 0

/-- The accesses 20_memory.md R37 allows. -/
def BusAccess.wf : BusAccess → Bool
  | .read width off => accessWf width off
  | .write width off _ => accessWf width off

/-- An operand `imm8`: 0 to 255, or −128 to −1 (30_encoding.md R59). -/
def imm8Wf (x : Int) : Bool := decide (-128 ≤ x) && decide (x ≤ 255)

/-- An operand `imm32`: 0 to 2^32 − 1 (30_encoding.md R67, log 17). -/
def imm32Wf (x : Int) : Bool := decide (0 ≤ x) && decide (x < 4294967296)

/-- The operand of `L2_START`: none, 0 or 1 (30_encoding.md R66). -/
def seedSelectWf : Option Int → Bool
  | none => true
  | some s => s == 0 || s == 1

/-- The lines the assembler accepts (30_encoding.md R66, R67, R68). -/
def AsmLine.wf : AsmLine → Bool
  | .nop => true
  | .oaatStart => true
  | .oaatByte x => imm8Wf x
  | .oaatFinish => true
  | .l2Start s => seedSelectWf s
  | .l2Byte x => imm8Wf x
  | .l2Finish => true
  | .mix => true
  | .clrErr => true
  | .word x => imm32Wf x
  | .wr _ x => imm32Wf x
  | .rd _ _ => true
  | .oaatStr _ => true
  | .l2Str _ seed => seed.all imm32Wf
  | .oaatBytes xs => xs.all imm8Wf
  | .l2Bytes xs => xs.all imm8Wf
  | .mix3 a b c => imm32Wf a && imm32Wf b && imm32Wf c

end Sys2Proof
end

