-- ==== Sys2Proof/Decode.lean ====
section
/-!
DEFINITION. The decoder of 30_encoding.md R62, total on 32-bit words, and after it the encoder, written from the format
tables of R57 and the opcode map of R61.
-/

namespace Sys2Proof

/-- Why a word decodes as `ILLEGAL`. The engine records the same code for both (60_exceptions.md R114, R115). -/
inductive IllegalWord where
  /-- `OPC` is not in the opcode map (30_encoding.md R64). -/
  | unassignedOpcode
  /-- An assigned `OPC` with a 1 in a bit its format reserves (30_encoding.md R63). -/
  | reservedBitSet
  deriving DecidableEq, Repr

/-- What `Decode` answers (30_encoding.md R62). -/
inductive Decoded where
  | legal (i : Instr)
  | illegal (why : IllegalWord)
  deriving DecidableEq, Repr

/-- `OPC = v[31:24]` (30_encoding.md R58). -/
def opcField (v : Word) : BitVec 8 := v.extractLsb' 24 8

/-- `BYTE = v[7:0]` (30_encoding.md R59). -/
def byteField (v : Word) : Byte := v.extractLsb' 0 8

/-- `S = v[0]` (30_encoding.md R60). -/
def seedSelectField (v : Word) : Bool := v.getLsbD 0

/-- The bits format N reserves, `v[23:0]` (30_encoding.md R57). -/
def reservedN (v : Word) : BitVec 24 := v.extractLsb' 0 24

/-- The bits format B reserves, `v[23:8]` (30_encoding.md R57). -/
def reservedB (v : Word) : BitVec 16 := v.extractLsb' 8 16

/-- The bits format S reserves, `v[23:1]` (30_encoding.md R57). -/
def reservedS (v : Word) : BitVec 23 := v.extractLsb' 1 23

/-- The command, where the reserved bits are all 0 (30_encoding.md R63). -/
def ifReservedClear {w : Nat} (reserved : BitVec w) (i : Instr) : Decoded :=
  if reserved = 0 then .legal i else .illegal .reservedBitSet

/-- `Decode(v)` (30_encoding.md R62). It reads no state. -/
def decode (v : Word) : Decoded :=
  match opcField v with
  | 0x00 => ifReservedClear (reservedN v) .nop
  | 0x01 => ifReservedClear (reservedN v) .oaatStart
  | 0x02 => ifReservedClear (reservedB v) (.oaatByte (byteField v))
  | 0x03 => ifReservedClear (reservedN v) .oaatFinish
  | 0x11 => ifReservedClear (reservedS v) (.l2Start (seedSelectField v))
  | 0x12 => ifReservedClear (reservedB v) (.l2Byte (byteField v))
  | 0x13 => ifReservedClear (reservedN v) .l2Finish
  | 0x20 => ifReservedClear (reservedN v) .mix
  | 0x30 => ifReservedClear (reservedN v) .clrErr
  | _ => .illegal .unassignedOpcode

/-- The command a word stands for, where it is legal. -/
def Decoded.toOption : Decoded → Option Instr
  | .legal i => some i
  | .illegal _ => none

/-- The command the decoder reads from a table row's word: one 32-bit word, and any bit above `nbits` is 0. A number
that does not fit the one word of a command is none (30_encoding.md R56). -/
def decodeTableWord (nbits w : Nat) : Option Instr :=
  if w % 2 ^ nbits < 2 ^ 32 then (decode (BitVec.ofNat 32 (w % 2 ^ nbits))).toOption else none

/-- Format N: `OPC`, then 24 reserved bits of 0 (30_encoding.md R57). -/
def formatN (opc : BitVec 8) : Word := opc ++ (0 : BitVec 24)

/-- Format B: `OPC`, 16 reserved bits of 0, `BYTE` (30_encoding.md R57). -/
def formatB (opc : BitVec 8) (byte : Byte) : Word := opc ++ (0 : BitVec 16) ++ byte

/-- Format S: `OPC`, 23 reserved bits of 0, `S` (30_encoding.md R57). -/
def formatS (opc : BitVec 8) (s : Bool) : Word := opc ++ (0 : BitVec 23) ++ BitVec.ofBool s

/-- The `OPC` of a command (30_encoding.md R61). -/
def opcodeOf : Instr → BitVec 8
  | .nop => 0x00
  | .oaatStart => 0x01
  | .oaatByte _ => 0x02
  | .oaatFinish => 0x03
  | .l2Start _ => 0x11
  | .l2Byte _ => 0x12
  | .l2Finish => 0x13
  | .mix => 0x20
  | .clrErr => 0x30

/-- The word of a command (30_encoding.md R57, R61). -/
def encode : Instr → Word
  | .nop => formatN 0x00
  | .oaatStart => formatN 0x01
  | .oaatByte byte => formatB 0x02 byte
  | .oaatFinish => formatN 0x03
  | .l2Start s => formatS 0x11 s
  | .l2Byte byte => formatB 0x12 byte
  | .l2Finish => formatN 0x13
  | .mix => formatN 0x20
  | .clrErr => formatN 0x30

/-- The `match` column of the opcode map (30_encoding.md R61). -/
def tableMatch : Instr → Word
  | .nop => 0x00000000
  | .oaatStart => 0x01000000
  | .oaatByte _ => 0x02000000
  | .oaatFinish => 0x03000000
  | .l2Start _ => 0x11000000
  | .l2Byte _ => 0x12000000
  | .l2Finish => 0x13000000
  | .mix => 0x20000000
  | .clrErr => 0x30000000

/-- The `mask` column of the opcode map (30_encoding.md R61). -/
def tableMask : Instr → Word
  | .nop => 0xFFFFFFFF
  | .oaatStart => 0xFFFFFFFF
  | .oaatByte _ => 0xFFFFFF00
  | .oaatFinish => 0xFFFFFFFF
  | .l2Start _ => 0xFFFFFFFE
  | .l2Byte _ => 0xFFFFFF00
  | .l2Finish => 0xFFFFFFFF
  | .mix => 0xFFFFFFFF
  | .clrErr => 0xFFFFFFFF

end Sys2Proof
end

