-- ==== Sys2Proof/Config.lean ====
section
/-!
DEFINITION. What an implementation fixes (00_scope.md R9, 10_state.md R33), and the free values of the model: the
opaque constants below have no body, so nothing can be proved of their values.
-/

namespace Sys2Proof

/-- `L2_FOLD_MODE` (00_scope.md R9, 42_lookup2.md R94, R99). -/
inductive FoldMode where
  | corrected
  | literal
  deriving DecidableEq, Repr

/-- `MIX_B_SHIFT` (00_scope.md R9, 40_mix.md R71, R73). -/
inductive MixBShift where
  | right
  | left
  deriving DecidableEq, Repr

/-- The two parameters software can see in `STATUS` (10_state.md R27). DESIGN CHOICE (log 1): the machine carries them
in its state, where no step changes them, so that a statement about every state is one about every variant. -/
structure Config where
  l2FoldMode : FoldMode
  mixBShift : MixBShift
  deriving DecidableEq, Repr

/-- The values 00_scope.md R9 gives as defaults: `CORRECTED` and `RIGHT`. -/
def Config.default : Config := { l2FoldMode := .corrected, mixBShift := .right }

/-- Which 64-byte block of the host's address map holds the window: `OPEN` (00_scope.md R9, log 2). -/
opaque Config.engineWindow : Nat

/-- `ENGINE_BASE`: a 64-byte-aligned address, by construction (00_scope.md R9, 20_memory.md R35). -/
def Config.engineBase : Nat := 64 * Config.engineWindow

/-- How many cycles beyond the first a command with this `OPC` holds the bus: `OPEN` (00_scope.md R9, log 3). -/
opaque Config.cyclesPastFirst : BitVec 8 → Nat

/-- `T_CMD(op)`: a natural number at least 1 (00_scope.md R9, 70_reset_and_hazards.md R140). -/
def Config.tCmd (opc : BitVec 8) : Nat := Config.cyclesPastFirst opc + 1

/-- The free values of the model, one for each number (log 10). -/
opaque Config.freeValue : Nat → Nat

end Sys2Proof
end

