-- ==== Sys2Proof/Machine/State.lean ====
section
/-!
DEFINITION. The machine's state: the engine's architectural state, "exactly" that of 10_state.md R15, beside the
configuration (10_state.md R33) and the model's own fields (logs 4, 6, 9, 10); the reasons a step can stop; and the
state after reset (10_state.md R34).
-/

namespace Sys2Proof.Machine

/-- `MODE` (10_state.md R19): encoding 3 is never held, so it has no constructor (log 15). -/
inductive Mode where
  | idle
  | oaat
  | l2
  deriving DecidableEq, Repr

/-- `ERRCODE` (10_state.md R26, 60_exceptions.md R114): codes 4 to 15 are never held, so they have no constructor
(log 15). -/
inductive ErrCode where
  | none
  | illegalCmd
  | badSequence
  | regLocked
  deriving DecidableEq, Repr

/-- The engine's architectural state (10_state.md R15). `ID` is hard-wired (R30): see `idWord`. -/
structure Engine where
  /-- `ACC` (R16). -/
  acc : Word
  /-- `A` (R17). -/
  a : Word
  /-- `B` (R17). -/
  b : Word
  /-- `C` (R17). -/
  c : Word
  /-- `BUF[0..11]` (R18). -/
  buf : Vector Byte 12
  /-- `BUFCNT`, 0 to 11 (R18). -/
  bufcnt : Fin 12
  /-- `MODE` (R19). -/
  mode : Mode
  /-- `LEN` (R20). -/
  len : Word
  /-- `SEED` (R21). -/
  seed : Word
  /-- `RESULT` (R22). -/
  result : Word
  /-- `DONE` (R25). -/
  done : Bool
  /-- `ERR` (R26). -/
  err : Bool
  /-- `ERRCODE` (R26). -/
  errcode : ErrCode
  deriving DecidableEq, Repr

/-- The whole state of the machine. -/
structure State where
  /-- The two parameters visible to software: constant (10_state.md R33, log 1). -/
  config : Config
  /-- The architectural state (10_state.md R15). -/
  engine : Engine
  /-- The model's own: the events that have not happened yet, oldest first (20_memory.md R50, log 4). -/
  pending : List BusEvent
  /-- The model's own: what the bus answered to the last completed access (log 6). -/
  response : Option BusResponse
  /-- The model's own: power has come back and reset has not been asserted, so no rule applies
  (70_reset_and_hazards.md R136, log 9). -/
  needsReset : Bool
  /-- The model's own: the number of the next free value (log 10). -/
  freeCount : Nat
  deriving DecidableEq, Repr

/-- Why an access stops with a bus error, which has no successor state (20_memory.md R37, 60_exceptions.md R132). -/
inductive Fault where
  /-- The access is not 32 bits wide. Raised by `performAccess`. Safe: the spec gives the access no successor state. -/
  | busErrorWidth
  /-- The access is 32 bits wide and its offset is no multiple of 4. Raised by `performAccess`. Safe, as above. -/
  | busErrorAlignment
  deriving DecidableEq, Repr

/-- Why a step has no meaning. -/
inductive Refusal where
  /-- A command with no meaning yet. Raised by no arm of `exec`: every command is modelled. Safe. -/
  | notModelled (mnemonic : String)
  /-- An access before the first reset after power-on: no rule of the spec applies (70_reset_and_hazards.md R136).
  Raised by `performAccess`. Safe. -/
  | beforeReset
  deriving DecidableEq, Repr

/-- What a step answers. -/
abbrev Outcome := Host.Outcome State Fault Refusal

/-- The engine after reset (10_state.md R34). `BUF` is unspecified there: the twelve zero bytes are a DESIGN CHOICE
(log 7). -/
def Engine.reset : Engine where
  acc := 0
  a := 0
  b := 0
  c := 0
  buf := Vector.replicate 12 0
  bufcnt := 0
  mode := .idle
  len := 0
  seed := 0
  result := 0
  done := false
  err := false
  errcode := .none

/-- The state after reset of an engine of the given variant, with nothing sent to it yet (10_state.md R34). -/
def State.resetOf (config : Config) : State where
  config := config
  engine := Engine.reset
  pending := []
  response := none
  needsReset := false
  freeCount := 0

/-- The machine right after reset, in the variant 00_scope.md R9 makes the default. -/
def State.reset : State := State.resetOf Config.default

end Sys2Proof.Machine
end

