-- ==== Sys2Proof/Machine/Flags.lean ====
section
/-!
DEFINITION. The status register: the codes of its fields and its layout (10_state.md R23 to R27; 20_memory.md R39). The
engine has no condition codes (10_state.md R31).
-/

namespace Sys2Proof.Machine

/-- `STATUS.MODE` (10_state.md R19, R23). -/
def modeCode : Mode → BitVec 2
  | .idle => 0
  | .oaat => 1
  | .l2 => 2

/-- `STATUS.ERRCODE` (60_exceptions.md R114). -/
def errorCode : ErrCode → BitVec 4
  | .none => 0
  | .illegalCmd => 1
  | .badSequence => 2
  | .regLocked => 3

/-- `STATUS.FOLD_LITERAL` (10_state.md R27). -/
def foldLiteralBit (config : Config) : BitVec 1 :=
  match config.l2FoldMode with
  | .corrected => 0
  | .literal => 1

/-- `STATUS.MIX_B_LEFT` (10_state.md R27). -/
def mixBLeftBit (config : Config) : BitVec 1 :=
  match config.mixBShift with
  | .right => 0
  | .left => 1

/-- The word `STATUS` reads as: `{0 (18 bits), MIX_B_LEFT, FOLD_LITERAL, BUFCNT, ERRCODE, ERR, DONE, MODE}`
(20_memory.md R39, 10_state.md R23). -/
def statusWord (config : Config) (e : Engine) : Word :=
  (0 : BitVec 18) ++ mixBLeftBit config ++ foldLiteralBit config ++ BitVec.ofNat 4 e.bufcnt.val
    ++ errorCode e.errcode ++ BitVec.ofBool e.err ++ BitVec.ofBool e.done ++ modeCode e.mode

end Sys2Proof.Machine
end

