-- ==== Sys2Proof/Machine/Operands.lean ====
section
/-!
DEFINITION. The operand forms of the commands: how an input byte is widened (00_scope.md R10; 30_encoding.md R59) and
what the seed-select bit selects (30_encoding.md R60).
-/

namespace Sys2Proof.Machine

/-- `sext_32(b)`: OAAT reads a byte "as a signed 8-bit value" (41_oaat.md R80, R83). -/
def sext32 (byte : Byte) : Word := byte.signExtend 32

/-- `zext_32(b)`: lookup2 reads a byte unsigned (42_lookup2.md R96). -/
def zext32 (byte : Byte) : Word := byte.zeroExtend 32

/-- What `C` starts at: `SEED` when `S` is 1, else 0, "absent" (30_encoding.md R60, 42_lookup2.md R93). -/
def seedOperand (seeded : Bool) (seed : Word) : Word := if seeded then seed else 0

end Sys2Proof.Machine
end

