-- ==== Sys2Proof/Machine/Ops.lean ====
section
/-!
DEFINITION. The operations the meanings share: updates of the state, recording an interface error (the engine's only
exception: 60_exceptions.md R116, R121) and the return from one (R122), the mode check of the session commands
(43_control.md R110), reset, and the state nothing is known of (70_reset_and_hazards.md R136).
-/

namespace Sys2Proof.Machine

/-- The state with another engine state, all else as it was. -/
def State.withEngine (s : State) (e : Engine) : State := { s with engine := e }

/-- The state with another stream of events, all else as it was. -/
def State.withPending (s : State) (evs : List BusEvent) : State := { s with pending := evs }

/-- The state with another bus answer, all else as it was. -/
def State.withResponse (s : State) (r : Option BusResponse) : State := { s with response := r }

/-- `raise Error(code)`: the first error since the last clear is kept (60_exceptions.md R116). -/
def Engine.recordError (e : Engine) (code : ErrCode) : Engine :=
  if e.err then e else { e with err := true, errcode := code }

/-- `ERR <- 0; ERRCODE <- 0` (43_control.md R109, 60_exceptions.md R122). -/
def Engine.clearError (e : Engine) : Engine := { e with err := false, errcode := .none }

/-- Taking an interface error: it is recorded, the command or access that raised it ends with no other effect, and
control goes nowhere (60_exceptions.md R116, R121). -/
def raiseError (code : ErrCode) (s : State) : Host.Outcome State Fault Refusal :=
  .next (s.withEngine (s.engine.recordError code))

/-- The return from an error: nothing was saved, so nothing but `ERR` and `ERRCODE` is restored (60_exceptions.md
R122). -/
def clearErrorState (s : State) : Host.Outcome State Fault Refusal :=
  .next (s.withEngine s.engine.clearError)

/-- A command with no error condition: its effect on the engine happens (43_control.md R110, "runs"). -/
def runEffect (effect : Engine → Engine) (s : State) : Host.Outcome State Fault Refusal :=
  .next (s.withEngine (effect s.engine))

/-- A command that runs in one mode only: `BAD_SEQUENCE` in the others, checked before any state is written
(43_control.md R107, R110; 60_exceptions.md R117). -/
def runInMode (m : Mode) (effect : Engine → Engine) (s : State) : Host.Outcome State Fault Refusal :=
  if s.engine.mode = m then runEffect effect s else raiseError .badSequence s

/-- Reset: every piece of the engine's state takes its reset value and the open session is abandoned; the
configuration stays (70_reset_and_hazards.md R133, 10_state.md R33, R34). An access that overlaps it has no effect on
the engine, and what the host saw of it is a free value (R133, log 11). -/
def resetEngine (overlapping : Option BusAccess) (s : State) : Host.Outcome State Fault Refusal :=
  match overlapping with
  | none => .next { s with engine := Engine.reset, needsReset := false, response := none }
  | some _ =>
    .next { s with
      engine := Engine.reset
      needsReset := false
      response := some (.overlapped (BitVec.ofNat 32 (Config.freeValue s.freeCount)))
      freeCount := s.freeCount + 1 }

/-- A mode nothing is known of, from a free number. -/
def freeMode (n : Nat) : Mode :=
  match Fin.ofNat 3 n with
  | 0 => .idle
  | 1 => .oaat
  | 2 => .l2

/-- An error code nothing is known of, from a free number. -/
def freeErrCode (n : Nat) : ErrCode :=
  match Fin.ofNat 4 n with
  | 0 => .none
  | 1 => .illegalCmd
  | 2 => .badSequence
  | 3 => .regLocked

/-- An engine state nothing is known of: each field is drawn from a free value of its own, numbers `k` to `k + 23`
(60_exceptions.md R131, 70_reset_and_hazards.md R136, log 10). -/
def Engine.unspecified (k : Nat) : Engine where
  acc := BitVec.ofNat 32 (Config.freeValue k)
  a := BitVec.ofNat 32 (Config.freeValue (k + 1))
  b := BitVec.ofNat 32 (Config.freeValue (k + 2))
  c := BitVec.ofNat 32 (Config.freeValue (k + 3))
  len := BitVec.ofNat 32 (Config.freeValue (k + 4))
  seed := BitVec.ofNat 32 (Config.freeValue (k + 5))
  result := BitVec.ofNat 32 (Config.freeValue (k + 6))
  bufcnt := Fin.ofNat 12 (Config.freeValue (k + 7))
  mode := freeMode (Config.freeValue (k + 8))
  done := (Config.freeValue (k + 9)).testBit 0
  err := (Config.freeValue (k + 10)).testBit 0
  errcode := freeErrCode (Config.freeValue (k + 11))
  buf := Vector.ofFn fun i => BitVec.ofNat 8 (Config.freeValue (k + 12 + i.val))

/-- Power is lost and comes back: the engine's state is unspecified and no rule applies to it until reset has been
asserted and released (60_exceptions.md R131, 70_reset_and_hazards.md R136, log 9). -/
def losePower (s : State) : Host.Outcome State Fault Refusal :=
  .next { s with
    engine := Engine.unspecified s.freeCount
    needsReset := true
    response := none
    freeCount := s.freeCount + 24 }

end Sys2Proof.Machine
end

