-- ==== Sys2Proof/Machine/Control.lean ====
section
/-!
DEFINITION. The two commands that belong to no hash engine (43_control.md R108, R109).
-/

namespace Sys2Proof.Machine

/-- `NOP` (43_control.md R108): no state is written. -/
def execNop (s : State) : Host.Outcome State Fault Refusal := .next s

/-- `CLR_ERR` (43_control.md R109): legal in every mode, does not touch an open session. -/
def execClrErr (s : State) : Host.Outcome State Fault Refusal := clearErrorState s

end Sys2Proof.Machine
end

