-- ==== Sys2Proof/Machine/Mix.lean ====
section
/-!
DEFINITION. The Mixing Function (40_mix.md R71 to R74) and the `MIX` command (R78).
-/

namespace Sys2Proof.Machine

/-- The three lookup2 words `(a, b, c)` (10_state.md R17). -/
structure Words3 where
  a : Word
  b : Word
  c : Word
  deriving DecidableEq, Repr

/-- `BShift(x, n)`: the shift of the XOR source of a `b` sub-step (40_mix.md R71, R73). -/
def bShift (config : Config) (x : Word) (n : Nat) : Word :=
  match config.mixBShift with
  | .right => x >>> n
  | .left => x <<< n

/-- One round: targets `a`, `b`, `c` in that order, each less the two other words and then XORed with the shifted word
updated just before it (40_mix.md R72). The shifts of the `a` and `c` sub-steps are logical (R74). -/
def mixRound (config : Config) (na nb nc : Nat) (w : Words3) : Words3 :=
  let a := (w.a - w.b - w.c) ^^^ (w.c >>> na)
  let b := (w.b - w.c - a) ^^^ bShift config a nb
  let c := (w.c - a - b) ^^^ (b >>> nc)
  { a, b, c }

/-- `Mix(a, b, c)`: three rounds, with shift amounts {13, 8, 13}, {12, 16, 5}, {3, 10, 15} (40_mix.md R71). -/
def mixWords (config : Config) (w : Words3) : Words3 :=
  mixRound config 3 10 15 (mixRound config 12 16 5 (mixRound config 13 8 13 w))

/-- The registers `A`, `B`, `C` as one triple. -/
def Engine.words (e : Engine) : Words3 := { a := e.a, b := e.b, c := e.c }

/-- `(A, B, C) <- w`. -/
def Engine.setWords (e : Engine) (w : Words3) : Engine := { e with a := w.a, b := w.b, c := w.c }

/-- `(A, B, C) <- Mix(A, B, C)` (40_mix.md R78). -/
def Engine.mixRegisters (config : Config) (e : Engine) : Engine := e.setWords (mixWords config e.words)

/-- `MIX` (40_mix.md R78): legal only in `IDLE` (R79). -/
def execMix (s : State) : Host.Outcome State Fault Refusal :=
  runInMode .idle (Engine.mixRegisters s.config) s

end Sys2Proof.Machine
end

