-- ==== Sys2Proof/Machine/Lookup2.lean ====
section
/-!
DEFINITION. The Lookup2 engine: its algorithm (42_lookup2.md R92, R94, R96, R98, R99) and its three commands (R93, R95,
R97).
-/

namespace Sys2Proof.Machine

/-- `GOLDEN`, the initial value of `a` and `b` (00_scope.md R9, 42_lookup2.md R93). -/
def golden : Word := 0x9E3779B9

/-- `FoldCorrected(k0, k1, k2, k3)`: little-endian, `k0` in bits 7:0 (42_lookup2.md R96). -/
def foldCorrected (k0 k1 k2 k3 : Byte) : Word :=
  zext32 k0 ||| (zext32 k1 <<< 8) ||| (zext32 k2 <<< 16) ||| (zext32 k3 <<< 24)

/-- `FoldLiteral(x, y, z, w)`: addition binds tighter than shift, shifts group left to right, on unbounded integers,
reduced modulo 2^32 at the end (42_lookup2.md R99). -/
def foldLiteral (x y z w : Byte) : Word :=
  BitVec.ofNat 32 ((((x.toNat + y.toNat) <<< (8 + z.toNat)) <<< (16 + w.toNat)) <<< 24)

/-- `Fold` in the variant of the configuration (42_lookup2.md R94). -/
def foldBytes (config : Config) (k0 k1 k2 k3 : Byte) : Word :=
  match config.l2FoldMode with
  | .corrected => foldCorrected k0 k1 k2 k3
  | .literal => foldLiteral k0 k1 k2 k3

/-- `BlockStep(a, b, c, k[0..11])` (42_lookup2.md R94). -/
def blockStep (config : Config) (w : Words3) (k : Vector Byte 12) : Words3 :=
  mixWords config
    { a := w.a + foldBytes config k[0] k[1] k[2] k[3]
      b := w.b + foldBytes config k[4] k[5] k[6] k[7]
      c := w.c + foldBytes config k[8] k[9] k[10] k[11] }

/-- Where tail byte `i` goes: into word `i div 4` at bit position `8·(i mod 4)`, `c`'s bits 7:0 left to the length
(42_lookup2.md R98). `byte` is `t[i]`. -/
def addTailByte (i : Nat) (byte : Byte) (w : Words3) : Words3 :=
  match i with
  | 10 => { w with c := w.c + (zext32 byte <<< 24) }
  | 9 => { w with c := w.c + (zext32 byte <<< 16) }
  | 8 => { w with c := w.c + (zext32 byte <<< 8) }
  | 7 => { w with b := w.b + (zext32 byte <<< 24) }
  | 6 => { w with b := w.b + (zext32 byte <<< 16) }
  | 5 => { w with b := w.b + (zext32 byte <<< 8) }
  | 4 => { w with b := w.b + zext32 byte }
  | 3 => { w with a := w.a + (zext32 byte <<< 24) }
  | 2 => { w with a := w.a + (zext32 byte <<< 16) }
  | 1 => { w with a := w.a + (zext32 byte <<< 8) }
  | 0 => { w with a := w.a + zext32 byte }
  | _ => w

/-- `TailFold(a, b, c, t[0..r-1])`: one addition per tail byte, from the highest offset down to the lowest
(42_lookup2.md R98). The list is the tail from `t[i]` on, so the later bytes are added first. -/
def tailFoldFrom (i : Nat) (tail : List Byte) (w : Words3) : Words3 :=
  match tail with
  | [] => w
  | byte :: rest => addTailByte i byte (tailFoldFrom (i + 1) rest w)

/-- `TailFold` of a whole tail (42_lookup2.md R98). -/
def tailFold (w : Words3) (tail : List Byte) : Words3 := tailFoldFrom 0 tail w

/-- The words of a session before any input (42_lookup2.md R92, R93). -/
def startWords (seed : Word) : Words3 := { a := golden, b := golden, c := seed }

/-- `c <- c + len` (42_lookup2.md R92, R97). -/
def Words3.addLength (w : Words3) (len : Word) : Words3 := { w with c := w.c + len }

/-- The block loop of 42_lookup2.md R92 over the bytes from the read position on: the words after the last complete
block, and the tail. -/
def blockLoop (config : Config) (w : Words3) : List Byte → Words3 × List Byte
  | k0 :: k1 :: k2 :: k3 :: k4 :: k5 :: k6 :: k7 :: k8 :: k9 :: k10 :: k11 :: rest =>
    blockLoop config (blockStep config w #v[k0, k1, k2, k3, k4, k5, k6, k7, k8, k9, k10, k11]) rest
  | tail => (w, tail)

/-- The final triple `(a, b, c)` of 42_lookup2.md R92. -/
def lookup2Words (config : Config) (m : List Byte) (seed : Word) : Words3 :=
  let looped := blockLoop config (startWords seed) m
  mixWords config (tailFold (looped.1.addLength (BitVec.ofNat 32 m.length)) looped.2)

/-- `Lookup2(M, seed)` (42_lookup2.md R92): the final value of `c`. -/
def lookup2 (config : Config) (m : List Byte) (seed : Word) : Word := (lookup2Words config m seed).c

/-- The effect of `L2_START` (42_lookup2.md R93). -/
def Engine.startL2 (seeded : Bool) (e : Engine) : Engine :=
  { e with
    a := golden
    b := golden
    c := seedOperand seeded e.seed
    bufcnt := 0
    len := 0
    done := false
    mode := .l2 }

/-- `BUF[BUFCNT] <- BYTE; LEN <- LEN + 1` (42_lookup2.md R95). -/
def Engine.takeByte (byte : Byte) (e : Engine) : Engine :=
  { e with buf := e.buf.set e.bufcnt.val byte e.bufcnt.isLt, len := e.len + 1 }

/-- The effect of an accepted `L2_BYTE` (42_lookup2.md R95): the twelfth byte of a block folds and mixes it. The bytes
of `BUF` stay where they are (10_state.md R32, log 8). -/
def Engine.absorbL2 (config : Config) (byte : Byte) (e : Engine) : Engine :=
  let t := e.takeByte byte
  if h : e.bufcnt.val + 1 < 12 then { t with bufcnt := ⟨e.bufcnt.val + 1, h⟩ }
  else { t.setWords (blockStep config e.words t.buf) with bufcnt := 0 }

/-- `BUF[0..BUFCNT-1]` (10_state.md R18). -/
def Engine.tail (e : Engine) : List Byte := e.buf.toList.take e.bufcnt.val

/-- The words `L2_FINISH` leaves: `C + LEN`, then the tail, then `Mix` (42_lookup2.md R97). -/
def Engine.finalWords (config : Config) (e : Engine) : Words3 :=
  mixWords config (tailFold (e.words.addLength e.len) e.tail)

/-- The effect of an accepted `L2_FINISH` (42_lookup2.md R97). -/
def Engine.finishL2 (config : Config) (e : Engine) : Engine :=
  { e.setWords (e.finalWords config) with
    result := (e.finalWords config).c
    bufcnt := 0
    mode := .idle
    done := true }

/-- `L2_START [s]` (42_lookup2.md R93): legal in every mode. -/
def execL2Start (seeded : Bool) (s : State) : Host.Outcome State Fault Refusal :=
  runEffect (Engine.startL2 seeded) s

/-- `L2_BYTE imm8` (42_lookup2.md R95). -/
def execL2Byte (byte : Byte) (s : State) : Host.Outcome State Fault Refusal :=
  runInMode .l2 (Engine.absorbL2 s.config byte) s

/-- `L2_FINISH` (42_lookup2.md R97). -/
def execL2Finish (s : State) : Host.Outcome State Fault Refusal :=
  runInMode .l2 (Engine.finishL2 s.config) s

end Sys2Proof.Machine
end

