-- ==== Sys2Proof/Machine/Oaat.lean ====
section
/-!
DEFINITION. The OAAT engine: its algorithm (41_oaat.md R80) and its three commands (R81, R82, R84).
-/

namespace Sys2Proof.Machine

/-- `OaatStep(acc, m)` (41_oaat.md R80): the byte is read signed, the right shift is arithmetic. -/
def oaatStep (acc : Word) (byte : Byte) : Word :=
  let acc := acc + sext32 byte
  let acc := acc + (acc <<< 10)
  acc ^^^ acc.sshiftRight 6

/-- `OaatFinal(acc)` (41_oaat.md R80): the right shift is arithmetic here too. -/
def oaatFinal (acc : Word) : Word :=
  let acc := acc + (acc <<< 3)
  let acc := acc ^^^ acc.sshiftRight 11
  acc + (acc <<< 15)

/-- `OaatHash(M)` (41_oaat.md R80): the hash as a function of the whole input. -/
def oaatHash (m : List Byte) : Word := oaatFinal (m.foldl oaatStep 0)

/-- The effect of `OAAT_START` (41_oaat.md R81). -/
def Engine.startOaat (e : Engine) : Engine :=
  { e with acc := 0, len := 0, bufcnt := 0, done := false, mode := .oaat }

/-- The effect of an accepted `OAAT_BYTE` (41_oaat.md R82). -/
def Engine.absorbOaat (byte : Byte) (e : Engine) : Engine :=
  { e with acc := oaatStep e.acc byte, len := e.len + 1 }

/-- The effect of an accepted `OAAT_FINISH` (41_oaat.md R84): `RESULT` gets the same 32 bits as `ACC` (R89). -/
def Engine.finishOaat (e : Engine) : Engine :=
  { e with acc := oaatFinal e.acc, result := oaatFinal e.acc, mode := .idle, done := true }

/-- `OAAT_START` (41_oaat.md R81): legal in every mode. -/
def execOaatStart (s : State) : Host.Outcome State Fault Refusal :=
  runEffect Engine.startOaat s

/-- `OAAT_BYTE imm8` (41_oaat.md R82). -/
def execOaatByte (byte : Byte) (s : State) : Host.Outcome State Fault Refusal :=
  runInMode .oaat (Engine.absorbOaat byte) s

/-- `OAAT_FINISH` (41_oaat.md R84). -/
def execOaatFinish (s : State) : Host.Outcome State Fault Refusal :=
  runInMode .oaat Engine.finishOaat s

end Sys2Proof.Machine
end

