-- ==== Sys2Proof/Machine/Dispatch.lean ====
section
/-!
DEFINITION. The dispatch of a decoded command to its meaning (43_control.md R107).
-/

namespace Sys2Proof.Machine

def exec (i : Instr) (s : State) : Host.Outcome State Fault Refusal :=
  match i with
  | .nop => Sys2Proof.Machine.execNop s
  | .oaatStart => Sys2Proof.Machine.execOaatStart s
  | .oaatByte byte => Sys2Proof.Machine.execOaatByte byte s
  | .oaatFinish => Sys2Proof.Machine.execOaatFinish s
  | .l2Start seeded => Sys2Proof.Machine.execL2Start seeded s
  | .l2Byte byte => Sys2Proof.Machine.execL2Byte byte s
  | .l2Finish => Sys2Proof.Machine.execL2Finish s
  | .mix => Sys2Proof.Machine.execMix s
  | .clrErr => Sys2Proof.Machine.execClrErr s

end Sys2Proof.Machine
end

