-- ==== Sys2Proof/Machine/Window.lean ====
section
/-!
DEFINITION. The register window: its map, reads and writes (20_memory.md R35 to R48), the execution of a command word
(43_control.md R107), and the events that reach the engine, one at a time (20_memory.md R50).
-/

namespace Sys2Proof.Machine

/-- `ID`, hard-wired (10_state.md R30, log 22). -/
def idWord : Word := 0x4F414154

/-- The offset column of the register map (20_memory.md R38). -/
def regOffset : RegName → Offset
  | .id => 0x00
  | .cmd => 0x04
  | .status => 0x08
  | .seed => 0x0C
  | .result => 0x10
  | .len => 0x14
  | .acc => 0x18
  | .a => 0x1C
  | .b => 0x20
  | .c => 0x24

/-- The register at an offset; none at the reserved offsets 0x28 to 0x3C (20_memory.md R38). -/
def regAt (off : Offset) : Option RegName :=
  match off with
  | 0x00 => some .id
  | 0x04 => some .cmd
  | 0x08 => some .status
  | 0x0C => some .seed
  | 0x10 => some .result
  | 0x14 => some .len
  | 0x18 => some .acc
  | 0x1C => some .a
  | 0x20 => some .b
  | 0x24 => some .c
  | _ => none

/-- The access column of the register map (20_memory.md R38). -/
def regAccess : RegName → RegAccess
  | .id => .readOnly
  | .cmd => .writeOnly
  | .status => .readOnly
  | .seed => .readWrite
  | .result => .readOnly
  | .len => .readOnly
  | .acc => .readOnly
  | .a => .readWriteInIdle
  | .b => .readWriteInIdle
  | .c => .readWriteInIdle

/-- What a named register reads as (20_memory.md R39): `CMD` reads 0. -/
def readReg (config : Config) (e : Engine) : RegName → Word
  | .id => idWord
  | .cmd => 0
  | .status => statusWord config e
  | .seed => e.seed
  | .result => e.result
  | .len => e.len
  | .acc => e.acc
  | .a => e.a
  | .b => e.b
  | .c => e.c

/-- `RegRead(off)` (20_memory.md R39): a reserved offset reads 0. It changes no state (R40). -/
def regRead (config : Config) (e : Engine) (off : Offset) : Word :=
  match regAt off with
  | some name => readReg config e name
  | none => 0

/-- The byte of the window at a byte offset: the window is little-endian (20_memory.md R45). -/
def windowByte (config : Config) (e : Engine) (off : Offset) : Byte :=
  (regRead config e (off &&& 0x3C)).extractLsb' (8 * (off.toNat % 4)) 8

/-- The offset a bus address of the window stands for, and none for an address of another device (20_memory.md R35,
R49; log 12). -/
def windowOffset (addr : Nat) : Option Offset :=
  if addr / 64 = Config.engineWindow then some (BitVec.ofNat 6 (addr % 64)) else none

/-- `SEED <- v` (20_memory.md R42). -/
def Engine.setSeed (e : Engine) (v : Word) : Engine := { e with seed := v }

/-- `A <- v` (20_memory.md R43). -/
def Engine.setA (e : Engine) (v : Word) : Engine := { e with a := v }

/-- `B <- v` (20_memory.md R43). -/
def Engine.setB (e : Engine) (v : Word) : Engine := { e with b := v }

/-- `C <- v` (20_memory.md R43). -/
def Engine.setC (e : Engine) (v : Word) : Engine := { e with c := v }

/-- A write that only `IDLE` allows: `REG_LOCKED` in the other modes (20_memory.md R43, 60_exceptions.md R118). -/
def writeInIdle (effect : Engine → Engine) (s : State) : Host.Outcome State Fault Refusal :=
  if s.engine.mode = .idle then runEffect effect s else raiseError .regLocked s

/-- `Execute(v)` (43_control.md R107): an illegal word records `ILLEGAL_CMD` before the mode is looked at
(60_exceptions.md R115, R120). -/
def execute (v : Word) (s : State) : Host.Outcome State Fault Refusal :=
  match decode v with
  | .legal i => exec i s
  | .illegal _ => raiseError .illegalCmd s

/-- `RegWrite(off, v)` (20_memory.md R41 to R44): a write to a read-only register or a reserved offset is ignored. -/
def regWrite (off : Offset) (v : Word) (s : State) : Host.Outcome State Fault Refusal :=
  match regAt off with
  | some .cmd => execute v s
  | some .seed => runEffect (fun e => e.setSeed v) s
  | some .a => writeInIdle (fun e => e.setA v) s
  | some .b => writeInIdle (fun e => e.setB v) s
  | some .c => writeInIdle (fun e => e.setC v) s
  | some .id => .next s
  | some .status => .next s
  | some .result => .next s
  | some .len => .next s
  | some .acc => .next s
  | none => .next s

/-- Why an access of this width at this offset is answered with a bus error; none where it is allowed (20_memory.md
R37, log 13). -/
def accessFault (width : AccessWidth) (off : Offset) : Option Fault :=
  if width ≠ .w32 then some .busErrorWidth
  else if off.toNat % 4 ≠ 0 then some .busErrorAlignment
  else none

/-- The write completes, after all it does has been done (20_memory.md R41, R50). -/
def completeWrite (o : Host.Outcome State Fault Refusal) : Host.Outcome State Fault Refusal :=
  match o with
  | .next t => .next (t.withResponse (some .writeDone))
  | .fault r => .fault r
  | .refused r => .refused r

/-- One host access (60_exceptions.md R132). A bus error has no successor state (20_memory.md R37); before the first
reset after power-on no rule applies (70_reset_and_hazards.md R136, log 9). -/
def performAccess (access : BusAccess) (s : State) : Host.Outcome State Fault Refusal :=
  if s.needsReset then .refused .beforeReset
  else
    match access with
    | .read width off =>
      match accessFault width off with
      | some r => .fault r
      | none => .next (s.withResponse (some (.readData (regRead s.config s.engine off))))
    | .write width off v =>
      match accessFault width off with
      | some r => .fault r
      | none => completeWrite (regWrite off v s)

/-- One event (20_memory.md R52, 70_reset_and_hazards.md R133, 60_exceptions.md R131). -/
def performEvent (event : BusEvent) (s : State) : Host.Outcome State Fault Refusal :=
  match event with
  | .access access => performAccess access s
  | .reset overlapping => resetEngine overlapping s
  | .powerLoss => losePower s

/-- The next event happens, or the engine waits for one and nothing changes (20_memory.md R50,
70_reset_and_hazards.md R134, log 5). -/
def performNext (s : State) : Host.Outcome State Fault Refusal :=
  match s.pending with
  | [] => .next s
  | event :: rest => performEvent event (s.withPending rest)

/-- The host's access that writes a command word (20_memory.md R41). -/
def cmdWrite (v : Word) : BusAccess := .write .w32 (regOffset .cmd) v

end Sys2Proof.Machine
end

