-- ==== Sys2Proof/Machine/Step.lean ====
section
/-!
DEFINITION. The step of the machine, and where a command is placed so that the next step runs it (log 4).
-/

namespace Sys2Proof.Machine

/-- One step: the next event of the stream happens (20_memory.md R50). -/
def step (s : State) : Host.Outcome State Fault Refusal := performNext s

/-- The state with a write of the command word `w` to `CMD` as the next event of the host's stream (20_memory.md R41,
R53; log 4). Bits of `w` above `nbits` are 0. -/
def State.withFetchWord (s : State) (nbits w : Nat) : State :=
  s.withPending (.access (cmdWrite (BitVec.ofNat 32 (w % 2 ^ nbits))) :: s.pending)

end Sys2Proof.Machine
end

