-- ==== Sys2Proof/Machine/Assembler.lean ====
section
/-!
DEFINITION. The meaning of one line of assembler source: the host accesses it stands for (30_encoding.md R66 to R69).
-/

namespace Sys2Proof.Machine

/-- The byte an operand `imm8` spells: 256 + value for −128 to −1 (30_encoding.md R59). -/
def imm8Byte (x : Int) : Byte := BitVec.ofInt 8 x

/-- The word an operand `imm32` spells (30_encoding.md R67). -/
def imm32Word (x : Int) : Word := BitVec.ofInt 32 x

/-- The `S` an operand of `L2_START` spells: absent means 0 (30_encoding.md R66). -/
def seedSelect : Option Int → Bool
  | none => false
  | some s => s == 1

/-- The UTF-8 bytes of a character. PRESUMED from the Unicode standard, which R68 points to (log 18). -/
def utf8Bytes (ch : Char) : List Byte :=
  let n := ch.toNat
  let low (k : Nat) : Byte := BitVec.ofNat 8 (0x80 + k % 64)
  if n < 0x80 then [BitVec.ofNat 8 n]
  else if n < 0x800 then [BitVec.ofNat 8 (0xC0 + n / 64), low n]
  else if n < 0x10000 then [BitVec.ofNat 8 (0xE0 + n / 4096), low (n / 64), low n]
  else [BitVec.ofNat 8 (0xF0 + n / 262144), low (n / 4096), low (n / 64), low n]

/-- The UTF-8 bytes of a text, in order (30_encoding.md R68). -/
def textBytes (text : List Char) : List Byte := text.flatMap utf8Bytes

/-- `wr CMD, word` for a command (30_encoding.md R66). -/
def writeCommand (i : Instr) : BusAccess := cmdWrite (encode i)

/-- `wr NAME, v` (30_encoding.md R67). -/
def writeNamed (name : RegName) (v : Word) : BusAccess := .write .w32 (regOffset name) v

/-- `rd NAME` (30_encoding.md R67). -/
def readNamed (name : RegName) : BusAccess := .read .w32 (regOffset name)

/-- `OAAT_START`, one `OAAT_BYTE` per byte, `OAAT_FINISH` (30_encoding.md R68, R69). -/
def oaatAccesses (m : List Byte) : List BusAccess :=
  writeCommand .oaatStart :: (m.map fun byte => writeCommand (.oaatByte byte)) ++ [writeCommand .oaatFinish]

/-- `L2_START`, one `L2_BYTE` per byte, `L2_FINISH`; with a seed, `wr SEED, seed` and `L2_START 1` (30_encoding.md
R68). -/
def l2Accesses (m : List Byte) (seed : Option Word) : List BusAccess :=
  (match seed with
    | none => [writeCommand (.l2Start false)]
    | some v => [writeNamed .seed v, writeCommand (.l2Start true)])
  ++ (m.map fun byte => writeCommand (.l2Byte byte)) ++ [writeCommand .l2Finish]

/-- The accesses of a well-formed line, with each pseudo-instruction expanded (30_encoding.md R66, R67, R68). -/
def expand : AsmLine → List BusAccess
  | .nop => [writeCommand .nop]
  | .oaatStart => [writeCommand .oaatStart]
  | .oaatByte x => [writeCommand (.oaatByte (imm8Byte x))]
  | .oaatFinish => [writeCommand .oaatFinish]
  | .l2Start s => [writeCommand (.l2Start (seedSelect s))]
  | .l2Byte x => [writeCommand (.l2Byte (imm8Byte x))]
  | .l2Finish => [writeCommand .l2Finish]
  | .mix => [writeCommand .mix]
  | .clrErr => [writeCommand .clrErr]
  | .word x => [cmdWrite (imm32Word x)]
  | .wr name x => [writeNamed name (imm32Word x)]
  | .rd name _ => [readNamed name]
  | .oaatStr text => oaatAccesses (textBytes text)
  | .l2Str text seed => l2Accesses (textBytes text) (seed.map imm32Word)
  | .oaatBytes xs => xs.map fun x => writeCommand (.oaatByte (imm8Byte x))
  | .l2Bytes xs => xs.map fun x => writeCommand (.l2Byte (imm8Byte x))
  | .mix3 a b c =>
    [writeNamed .a (imm32Word a), writeNamed .b (imm32Word b), writeNamed .c (imm32Word c), writeCommand .mix]

/-- What the assembler answers to a line: its accesses, or none where an operand is out of range. -/
def assemble (line : AsmLine) : Option (List BusAccess) := if line.wf then some (expand line) else none

end Sys2Proof.Machine
end

