-- ==== Sys2Proof/Machine/AssemblyText.lean ====
section
/-!
DEFINITION. The text of the assembler notation: reading one line of source (30_encoding.md R66, R67, R68) and
disassembling one word (R70). Text is a list of characters. What R66 to R68 do not say of the notation is in log 17.
-/

namespace Sys2Proof.Machine

/-- A blank between the parts of a line. -/
def isBlank (ch : Char) : Bool := ch == ' ' || ch == '\t'

/-- The text without the blanks around it. -/
def trimBlanks (text : List Char) : List Char := ((text.dropWhile isBlank).reverse.dropWhile isBlank).reverse

/-- The value of a digit character, 0 to 15 (R66). -/
def digitValue (ch : Char) : Option Nat :=
  if '0' ≤ ch ∧ ch ≤ '9' then some (ch.toNat - '0'.toNat)
  else if 'A' ≤ ch ∧ ch ≤ 'F' then some (ch.toNat - 'A'.toNat + 10)
  else if 'a' ≤ ch ∧ ch ≤ 'f' then some (ch.toNat - 'a'.toNat + 10)
  else none

/-- The value of digits to a base, continuing from `value`. -/
def digitsValue (base value : Nat) : List Char → Option Nat
  | [] => some value
  | ch :: rest =>
    match digitValue ch with
    | some d => if d < base then digitsValue base (base * value + d) rest else none
    | none => none

/-- A number without a sign: `0x` hexadecimal, or decimal (R66). -/
def parseMagnitude : List Char → Option Nat
  | [] => none
  | ['0', 'x'] => none
  | '0' :: 'x' :: digits => digitsValue 16 0 digits
  | digits => digitsValue 10 0 digits

/-- An immediate: a character literal of a 7-bit ASCII character, meaning its code, or a number. R66 says so of an imm8;
that every other immediate of a line is written the same way is a DESIGN CHOICE (log 17). -/
def parseImm (text : List Char) : Option Int :=
  match trimBlanks text with
  | ['\'', ch, '\''] => if ch.toNat < 128 then some (Int.ofNat ch.toNat) else none
  | '-' :: digits => (parseMagnitude digits).map fun n => -(Int.ofNat n)
  | digits => (parseMagnitude digits).map Int.ofNat

/-- The parts of an operand list, cut at its commas; a comma in a character literal cuts nothing (R66, R68). -/
def splitCommas : List Char → List (List Char)
  | [] => [[]]
  | '\'' :: ch :: '\'' :: rest =>
    match splitCommas rest with
    | part :: parts => ('\'' :: ch :: '\'' :: part) :: parts
    | [] => [['\'', ch, '\'']]
  | ',' :: rest => [] :: splitCommas rest
  | ch :: rest =>
    match splitCommas rest with
    | part :: parts => (ch :: part) :: parts
    | [] => [[ch]]

/-- Every part of an operand list as an immediate. -/
def parseImms (text : List Char) : Option (List Int) := (splitCommas text).mapM parseImm

/-- The names R67 gives the registers. -/
def parseRegName (text : List Char) : Option RegName :=
  match trimBlanks text with
  | ['I', 'D'] => some .id
  | ['C', 'M', 'D'] => some .cmd
  | ['S', 'T', 'A', 'T', 'U', 'S'] => some .status
  | ['S', 'E', 'E', 'D'] => some .seed
  | ['R', 'E', 'S', 'U', 'L', 'T'] => some .result
  | ['L', 'E', 'N'] => some .len
  | ['A', 'C', 'C'] => some .acc
  | ['A'] => some .a
  | ['B'] => some .b
  | ['C'] => some .c
  | _ => none

/-- A text in double quotes at the head of an operand, and what follows it (R68). -/
def parseQuoted (text : List Char) : Option (List Char × List Char) :=
  match trimBlanks text with
  | '"' :: rest =>
    match rest.dropWhile (· != '"') with
    | '"' :: after => some (rest.takeWhile (· != '"'), trimBlanks after)
    | _ => none
  | _ => none

/-- The parts of `NAME -> x` (R67). -/
def splitArrow : List Char → List Char × Option (List Char)
  | [] => ([], none)
  | '-' :: '>' :: rest => ([], some (trimBlanks rest))
  | ch :: rest => (ch :: (splitArrow rest).1, (splitArrow rest).2)

/-- A line with no operand. -/
def noOperand (operand : List Char) (line : AsmLine) : Option AsmLine := if operand = [] then some line else none

/-- The operand of `L2_START`: none, or an immediate (R66); that 0 and 1 may be written in any form of an immediate is the
model's choice (log 17). -/
def parseSeedSelect (operand : List Char) : Option AsmLine :=
  if operand = [] then some (.l2Start none) else (parseImm operand).map fun s => .l2Start (some s)

/-- `OAAT_STR "text"` (R68). -/
def parseOaatStr (operand : List Char) : Option AsmLine :=
  match parseQuoted operand with
  | some (text, []) => some (.oaatStr text)
  | _ => none

/-- `L2_STR "text"` and `L2_STR "text", seed` (R68); how the seed is written is the model's choice (log 17). -/
def parseL2Str (operand : List Char) : Option AsmLine :=
  match parseQuoted operand with
  | some (text, []) => some (.l2Str text none)
  | some (text, ',' :: seed) => (parseImm seed).map fun v => .l2Str text (some v)
  | _ => none

/-- `MIX3 a, b, c` (R68); how the three words are written is the model's choice (log 17). -/
def parseMix3 (operand : List Char) : Option AsmLine :=
  match parseImms operand with
  | some [a, b, c] => some (.mix3 a b c)
  | _ => none

/-- `wr NAME, imm32` (R67). R67 does not say how an imm32 is written: DESIGN CHOICE, as R66 writes an imm8, in decimal, in
`0x` hexadecimal or as a character literal (log 17). -/
def parseWr (operand : List Char) : Option AsmLine :=
  match splitCommas operand with
  | [name, imm] =>
    match parseRegName name, parseImm imm with
    | some n, some v => some (.wr n v)
    | _, _ => none
  | _ => none

/-- `rd NAME` and `rd NAME -> x` (R67). -/
def parseRd (operand : List Char) : Option AsmLine :=
  (parseRegName (splitArrow operand).1).map fun n => .rd n (splitArrow operand).2

/-- A line from its first word, in capitals, and its operand text (R66, R67, R68). -/
def parseStatement (word operand : List Char) : Option AsmLine :=
  match word with
  | ['N', 'O', 'P'] => noOperand operand .nop
  | ['O', 'A', 'A', 'T', '_', 'S', 'T', 'A', 'R', 'T'] => noOperand operand .oaatStart
  | ['O', 'A', 'A', 'T', '_', 'B', 'Y', 'T', 'E'] => (parseImm operand).map .oaatByte
  | ['O', 'A', 'A', 'T', '_', 'F', 'I', 'N', 'I', 'S', 'H'] => noOperand operand .oaatFinish
  | ['L', '2', '_', 'S', 'T', 'A', 'R', 'T'] => parseSeedSelect operand
  | ['L', '2', '_', 'B', 'Y', 'T', 'E'] => (parseImm operand).map .l2Byte
  | ['L', '2', '_', 'F', 'I', 'N', 'I', 'S', 'H'] => noOperand operand .l2Finish
  | ['M', 'I', 'X'] => noOperand operand .mix
  | ['C', 'L', 'R', '_', 'E', 'R', 'R'] => noOperand operand .clrErr
  | ['.', 'W', 'O', 'R', 'D'] => (parseImm operand).map .word
  | ['W', 'R'] => parseWr operand
  | ['R', 'D'] => parseRd operand
  | ['O', 'A', 'A', 'T', '_', 'S', 'T', 'R'] => parseOaatStr operand
  | ['L', '2', '_', 'S', 'T', 'R'] => parseL2Str operand
  | ['O', 'A', 'A', 'T', '_', 'B', 'Y', 'T', 'E', 'S'] => (parseImms operand).map .oaatBytes
  | ['L', '2', '_', 'B', 'Y', 'T', 'E', 'S'] => (parseImms operand).map .l2Bytes
  | ['M', 'I', 'X', '3'] => parseMix3 operand
  | _ => none

/-- One line of source: `MNEMONIC [operand]`, mnemonics in either case (R66). -/
def parseLine (text : List Char) : Option AsmLine :=
  let line := trimBlanks text
  parseStatement ((line.takeWhile fun ch => !isBlank ch).map Char.toUpper)
    (trimBlanks (line.dropWhile fun ch => !isBlank ch))

/-- The accesses a line of text stands for; none where it is no line of the notation. -/
def assembleText (text : List Char) : Option (List BusAccess) := (parseLine text).bind assemble

/-- A hexadecimal digit, in capitals (R70). -/
def hexDigit (n : BitVec 4) : Char := Char.ofNat (if n.toNat < 10 then 48 + n.toNat else 55 + n.toNat)

/-- `0xNN` (R70). -/
def hexByte (byte : Byte) : List Char :=
  ['0', 'x', hexDigit (byte.extractLsb' 4 4), hexDigit (byte.extractLsb' 0 4)]

/-- `0xXXXXXXXX` (R70). -/
def hexWord (v : Word) : List Char :=
  ['0', 'x', hexDigit (v.extractLsb' 28 4), hexDigit (v.extractLsb' 24 4), hexDigit (v.extractLsb' 20 4),
    hexDigit (v.extractLsb' 16 4), hexDigit (v.extractLsb' 12 4), hexDigit (v.extractLsb' 8 4),
    hexDigit (v.extractLsb' 4 4), hexDigit (v.extractLsb' 0 4)]

/-- The text of a command (R66, R70). -/
def commandText : Instr → List Char
  | .nop => ['N', 'O', 'P']
  | .oaatStart => ['O', 'A', 'A', 'T', '_', 'S', 'T', 'A', 'R', 'T']
  | .oaatByte byte => ['O', 'A', 'A', 'T', '_', 'B', 'Y', 'T', 'E', ' '] ++ hexByte byte
  | .oaatFinish => ['O', 'A', 'A', 'T', '_', 'F', 'I', 'N', 'I', 'S', 'H']
  | .l2Start false => ['L', '2', '_', 'S', 'T', 'A', 'R', 'T']
  | .l2Start true => ['L', '2', '_', 'S', 'T', 'A', 'R', 'T', ' ', '1']
  | .l2Byte byte => ['L', '2', '_', 'B', 'Y', 'T', 'E', ' '] ++ hexByte byte
  | .l2Finish => ['L', '2', '_', 'F', 'I', 'N', 'I', 'S', 'H']
  | .mix => ['M', 'I', 'X']
  | .clrErr => ['C', 'L', 'R', '_', 'E', 'R', 'R']

/-- The disassembly of a word (R70). -/
def disassemble (v : Word) : List Char :=
  match decode v with
  | .legal i => commandText i
  | .illegal _ => ['.', 'w', 'o', 'r', 'd', ' '] ++ hexWord v

end Sys2Proof.Machine
end

