-- ==== Sys2Proof/Safety.lean ====
section
/-!
DEFINITION. The terms claims are stated in: the invariant of the engine, which commands a mode accepts (43_control.md
R110), and the streams of accesses that carry one session (41_oaat.md R85, 42_lookup2.md R100).
-/

namespace Sys2Proof.Machine

/-- What holds of the engine's registers at every moment after reset. A code is recorded exactly while `ERR` is 1
(10_state.md R26, 60_exceptions.md R116); only an open lookup2 session has buffered bytes (10_state.md R18); `DONE` is 1
only while no session is open (10_state.md R25); in a lookup2 session `BUFCNT` and `LEN` agree modulo 4, since a block
is 12 bytes and `LEN` wraps at 2^32 (10_state.md R20, R29). -/
def EngineInv (e : Engine) : Prop :=
  (e.err = true ↔ e.errcode ≠ .none) ∧ (e.mode ≠ .l2 → e.bufcnt = 0) ∧ (e.done = true → e.mode = .idle) ∧
    (e.mode = .l2 → e.len.toNat % 4 = e.bufcnt.val % 4)

/-- The invariant of the machine: while a reset is outstanding nothing is known of the engine
(70_reset_and_hazards.md R136). -/
def StateInv (s : State) : Prop := s.needsReset = false → EngineInv s.engine

/-- Which mode accepts which command (43_control.md R110): "runs" is true, `BAD_SEQUENCE` is false. -/
def accepts : Mode → Instr → Bool
  | _, .nop => true
  | _, .oaatStart => true
  | m, .oaatByte _ => m == .oaat
  | m, .oaatFinish => m == .oaat
  | _, .l2Start _ => true
  | m, .l2Byte _ => m == .l2
  | m, .l2Finish => m == .l2
  | m, .mix => m == .idle
  | _, .clrErr => true

/-- The session in which the host hashes `m` with the OAAT engine (41_oaat.md R85). -/
def oaatSession (m : List Byte) : List Instr := .oaatStart :: (m.map .oaatByte ++ [.oaatFinish])

/-- The commands of a lookup2 session after its start (42_lookup2.md R100). -/
def l2Input (m : List Byte) : List Instr := m.map .l2Byte ++ [.l2Finish]

/-- The host's write of one command. -/
def commandEvent (i : Instr) : BusEvent := .access (cmdWrite (encode i))

/-- Accesses that leave an open session as it is: allowed reads, and allowed writes of `SEED`, of the `NOP` word and of
registers that ignore writes (41_oaat.md R85, 20_memory.md R40, R42, R44). -/
def harmless : BusEvent → Bool
  | .access (.read width off) => accessWf width off
  | .access (.write width off v) =>
    accessWf width off &&
      match regAt off with
      | some .cmd => v == encode .nop
      | some .a => false
      | some .b => false
      | some .c => false
      | _ => true
  | .reset _ => false
  | .powerLoss => false

/-- The events are the writes of the commands `cs`, in order, with nothing but harmless accesses before, between and
after them. -/
def carries (events : List BusEvent) (cs : List Instr) : Prop :=
  events.filter (fun event => !harmless event) = cs.map commandEvent

/-- `n` steps, stopping at the first bus error or refusal: `Host.Core.run` of the machine, on `State` itself. -/
def runSteps : Nat → State → Outcome
  | 0, s => .next s
  | n + 1, s =>
    match step s with
    | .next t => runSteps n t
    | .fault r => .fault r
    | .refused r => .refused r

/-- The events, one after the other, stopping at the first bus error or refusal (20_memory.md R50). -/
def performAll : List BusEvent → State → Outcome
  | [], s => .next s
  | event :: rest, s =>
    match performEvent event s with
    | .next t => performAll rest t
    | .fault r => .fault r
    | .refused r => .refused r

/-- The event is a reset or a loss of power (70_reset_and_hazards.md R133, 60_exceptions.md R131). -/
def resets : BusEvent → Bool
  | .access _ => false
  | .reset _ => true
  | .powerLoss => true

/-- The state in which an interface error has been recorded and nothing else has changed (60_exceptions.md R116). -/
def errorRecorded (code : ErrCode) (s : State) : State :=
  if s.engine.err = true then s else { s with engine := { s.engine with err := true, errcode := code } }

/-- What a completed lookup2 session over `m` leaves (42_lookup2.md R100): `s` is the state before it, `t` after it. -/
def L2Delivered (s t : State) (m : List Byte) (seed : Word) : Prop :=
  t.engine.result = lookup2 s.config m seed ∧ t.engine.c = t.engine.result ∧
    t.engine.len = BitVec.ofNat 32 m.length ∧ t.engine.mode = .idle ∧ t.engine.done = true ∧ t.engine.bufcnt = 0 ∧
    t.engine.err = s.engine.err ∧ t.engine.errcode = s.engine.errcode

/-- The input byte an event hands to the OAAT engine. -/
def oaatInput : BusEvent → Option Byte
  | .access (.write _ off v) =>
    if off = regOffset .cmd then
      match decode v with
      | .legal (.oaatByte byte) => some byte
      | _ => none
    else none
  | _ => none

/-- An access the bus allows that neither opens nor closes a session nor clears the error (60_exceptions.md R123). -/
def insideSession : BusEvent → Bool
  | .access (.read width off) => accessWf width off
  | .access (.write width off v) =>
    accessWf width off &&
      !(off == regOffset .cmd &&
        match decode v with
        | .legal .oaatStart => true
        | .legal .oaatFinish => true
        | .legal (.l2Start _) => true
        | .legal .clrErr => true
        | _ => false)
  | .reset _ => false
  | .powerLoss => false

/-- Two engines that differ at most in the bytes `BUF[BUFCNT..11]` (10_state.md R32). -/
def SameButHidden (e f : Engine) : Prop :=
  f = { e with buf := f.buf } ∧ ∀ i : Fin 12, i.val < e.bufcnt.val → e.buf[i] = f.buf[i]

/-- Two states that differ at most in the hidden bytes of their engines (10_state.md R32). -/
def SameButHiddenState (s t : State) : Prop :=
  t = { s with engine := t.engine } ∧ SameButHidden s.engine t.engine

/-- Two outcomes that a host cannot tell apart, now or later, by the hidden bytes (10_state.md R32). -/
def SameOutcome (x y : Outcome) : Prop :=
  match x, y with
  | .next s, .next t => SameButHiddenState s t
  | .fault r, .fault r' => r = r'
  | .refused r, .refused r' => r = r'
  | _, _ => False

/-- How long a stream of commands holds the bus, in cycles: `T_CMD` of each (70_reset_and_hazards.md R140, R142). -/
def busCycles (cs : List Instr) : Nat := (cs.map fun i => Config.tCmd (opcodeOf i)).sum

end Sys2Proof.Machine
end

