-- ==== Sys2Proof/Certificates/Slice0/Obligations.lean ====
section
/-!
DEFINITION. The statements about the machine, from the numbered rules of spec/. Each docstring says which rule a
statement formalises. The fields are written out where a rule names them, so that what a statement leaves out of an
update is unchanged.
-/

open Sys2Proof Sys2Proof.Machine

/-! ### Encoding -/

/-- Decoding and encoding are inverse to each other on the legal words (30_encoding.md R57, R61, R62). -/
def Obligations.DecodeAndEncodeAreInverse : Prop :=
  (∀ i : Instr, i.wf = true → decode (encode i) = .legal i) ∧
    ∀ (v : Word) (i : Instr), decode v = .legal i → i.wf = true ∧ encode i = v

/-- 30_encoding.md R61: a word is a row's command exactly when it matches the row's mask and match. -/
def Obligations.WordsMatchTheOpcodeMap : Prop :=
  ∀ v : Word,
    (decode v = .legal .nop ↔ v &&& 0xFFFFFFFF = 0x00000000) ∧
    (decode v = .legal .oaatStart ↔ v &&& 0xFFFFFFFF = 0x01000000) ∧
    ((∃ byte, decode v = .legal (.oaatByte byte)) ↔ v &&& 0xFFFFFF00 = 0x02000000) ∧
    (decode v = .legal .oaatFinish ↔ v &&& 0xFFFFFFFF = 0x03000000) ∧
    ((∃ s, decode v = .legal (.l2Start s)) ↔ v &&& 0xFFFFFFFE = 0x11000000) ∧
    ((∃ byte, decode v = .legal (.l2Byte byte)) ↔ v &&& 0xFFFFFF00 = 0x12000000) ∧
    (decode v = .legal .l2Finish ↔ v &&& 0xFFFFFFFF = 0x13000000) ∧
    (decode v = .legal .mix ↔ v &&& 0xFFFFFFFF = 0x20000000) ∧
    (decode v = .legal .clrErr ↔ v &&& 0xFFFFFFFF = 0x30000000)

/-- 520 words are legal: the count the spec derives from R61 and R62 (30_encoding.md R65). -/
def Obligations.ExactlyFiveHundredTwentyLegalWords : Prop :=
  ∃ legal : List Word, legal.Nodup ∧ legal.length = 520 ∧ ∀ v : Word, v ∈ legal ↔ ∃ i, decode v = .legal i

/-- 30_encoding.md R63: a word with an assigned `OPC` and a reserved bit set is illegal, and so is one with an `OPC` in
no row of R61 (R64); executing it records `ILLEGAL_CMD` and changes nothing else, in every mode. -/
def Obligations.IllegalWordsOnlyRecordIllegalCmd : Prop :=
  ∀ (v : Word) (s : State),
    ((v.extractLsb' 24 8 ∉ ([0x00, 0x01, 0x02, 0x03, 0x11, 0x12, 0x13, 0x20, 0x30] : List (BitVec 8))) ∨
      (v.extractLsb' 24 8 ∈ ([0x00, 0x01, 0x03, 0x13, 0x20, 0x30] : List (BitVec 8)) ∧ v.extractLsb' 0 24 ≠ 0) ∨
      (v.extractLsb' 24 8 ∈ ([0x02, 0x12] : List (BitVec 8)) ∧ v.extractLsb' 8 16 ≠ 0) ∨
      (v.extractLsb' 24 8 = 0x11 ∧ v.extractLsb' 1 23 ≠ 0)) →
    (∃ why, decode v = .illegal why) ∧ execute v s = .next (errorRecorded .illegalCmd s)

/-- Some words of 95_test_vectors.md 5.1 and what they decode to. -/
def Obligations.ListedWordsDecodeAsListed : Prop :=
  decode 0x00000000 = .legal .nop ∧ decode 0x01000000 = .legal .oaatStart ∧
    decode 0x02000080 = .legal (.oaatByte 0x80) ∧ decode 0x11000001 = .legal (.l2Start true) ∧
    decode 0x11000000 = .legal (.l2Start false) ∧ decode 0x120000FF = .legal (.l2Byte 0xFF) ∧
    decode 0x20000000 = .legal .mix ∧ decode 0x30000000 = .legal .clrErr ∧
    decode 0x02000100 = .illegal .reservedBitSet ∧ decode 0x04000000 = .illegal .unassignedOpcode

/-- Disassembly of a legal word is a line that assembles to the write of that word (30_encoding.md R66, R70). Where R66
says nothing of the notation, the reading of a line is the model's choice (log 17). -/
def Obligations.DisassemblyReassembles : Prop :=
  ∀ (v : Word) (i : Instr), decode v = .legal i → assembleText (disassemble v) = some [cmdWrite v]

/-! ### Steps -/

/-- The write of a word that decodes to a command runs that command on the state without that event, and then the write
completes (20_memory.md R41, R50; 43_control.md R107). The stream and the answer are the model's fields (logs 4, 6), and
so is the premise that no reset is outstanding (log 9). -/
def Obligations.StepRunsTheDecodedCommand : Prop :=
  ∀ (s : State) (v : Word) (i : Instr) (rest : List BusEvent),
    s.needsReset = false → s.pending = .access (.write .w32 0x04 v) :: rest → decode v = .legal i →
    step s =
      match exec i { s with pending := rest } with
      | .next t => .next { t with response := some .writeDone }
      | .fault r => .fault r
      | .refused r => .refused r

/-- A command placed by `withFetchWord` is what the next step runs: where it is placed is the model's choice (log 4). -/
def Obligations.PlacedCommandIsRunNext : Prop :=
  ∀ (s : State) (i : Instr), s.needsReset = false →
    step (s.withFetchWord 32 (encode i).toNat) =
      match exec i s with
      | .next t => .next { t with response := some .writeDone }
      | .fault r => .fault r
      | .refused r => .refused r

/-- With no event to come the engine waits: the model's reading of 70_reset_and_hazards.md R134 (log 5). -/
def Obligations.EngineWaitsForTheHost : Prop :=
  ∀ s : State, s.pending = [] → step s = .next s

/-- An allowed read answers the register's value and changes nothing else (20_memory.md R40); an allowed write does what
`RegWrite` does and then completes (R41, R50). The stream and the answer are the model's fields (logs 4, 6). -/
def Obligations.StepPerformsTheNextAccess : Prop :=
  ∀ (s : State) (off : Offset) (v : Word) (rest : List BusEvent), s.needsReset = false → off.toNat % 4 = 0 →
    (s.pending = .access (.read .w32 off) :: rest →
      step s = .next { s with pending := rest, response := some (.readData (regRead s.config s.engine off)) }) ∧
    (s.pending = .access (.write .w32 off v) :: rest →
      ∃ t, regWrite off v { s with pending := rest } = .next t ∧
        step s = .next { t with response := some .writeDone })

/-- The events of the stream happen one at a time, in the order the host issued them (20_memory.md R50); that the host's
accesses are held as a stream in the state is the model's choice (log 4). -/
def Obligations.StepsFollowTheStreamInOrder : Prop :=
  ∀ (events rest : List BusEvent) (s : State), s.pending = events ++ rest →
    runSteps events.length s = performAll events { s with pending := rest }

/-- 20_memory.md R39: what a read of each offset returns, in every mode. -/
def Obligations.ReadsReturnTheListedValues : Prop :=
  ∀ (config : Config) (e : Engine) (off : Offset), off.toNat % 4 = 0 →
    regRead config e off =
      if off = 0x00 then 0x4F414154
      else if off = 0x04 then 0
      else if off = 0x08 then
        (0 : BitVec 18) ++ (if config.mixBShift = .left then 1 else 0 : BitVec 1) ++
          (if config.l2FoldMode = .literal then 1 else 0 : BitVec 1) ++ BitVec.ofNat 4 e.bufcnt.val ++
          errorCode e.errcode ++ BitVec.ofBool e.err ++ BitVec.ofBool e.done ++ modeCode e.mode
      else if off = 0x0C then e.seed
      else if off = 0x10 then e.result
      else if off = 0x14 then e.len
      else if off = 0x18 then e.acc
      else if off = 0x1C then e.a
      else if off = 0x20 then e.b
      else if off = 0x24 then e.c
      else 0

/-- 10_state.md R23, R27: the fields of `STATUS`, each at its place. -/
def Obligations.StatusFieldsStandAtTheirBits : Prop :=
  ∀ (config : Config) (e : Engine),
    (regRead config e 0x08).extractLsb' 0 2 = (match e.mode with | .idle => 0 | .oaat => 1 | .l2 => 2) ∧
    (regRead config e 0x08).getLsbD 2 = e.done ∧
    (regRead config e 0x08).getLsbD 3 = e.err ∧
    (regRead config e 0x08).extractLsb' 4 4 =
      (match e.errcode with | .none => 0 | .illegalCmd => 1 | .badSequence => 2 | .regLocked => 3) ∧
    ((regRead config e 0x08).extractLsb' 8 4).toNat = e.bufcnt.val ∧
    (regRead config e 0x08).getLsbD 12 = decide (config.l2FoldMode = .literal) ∧
    (regRead config e 0x08).getLsbD 13 = decide (config.mixBShift = .left) ∧
    (regRead config e 0x08).extractLsb' 14 18 = 0

/-- 20_memory.md R42: a write of `SEED` sets `SEED` in every mode and has no other effect. -/
def Obligations.SeedWriteSetsSeedOnly : Prop :=
  ∀ (s : State) (v : Word), regWrite 0x0C v s = .next { s with engine := { s.engine with seed := v } }

/-- 20_memory.md R43, 60_exceptions.md R118: writes of `A`, `B`, `C`. -/
def Obligations.WordWritesNeedIdle : Prop :=
  ∀ (s : State) (v : Word),
    (s.engine.mode = .idle →
      regWrite 0x1C v s = .next { s with engine := { s.engine with a := v } } ∧
      regWrite 0x20 v s = .next { s with engine := { s.engine with b := v } } ∧
      regWrite 0x24 v s = .next { s with engine := { s.engine with c := v } }) ∧
    (s.engine.mode ≠ .idle → ∀ off ∈ ([0x1C, 0x20, 0x24] : List Offset),
      regWrite off v s = .next (errorRecorded .regLocked s))

/-- 20_memory.md R44: a write to a read-only register or to a reserved offset changes no state and records no error. -/
def Obligations.ReadOnlyAndReservedWritesAreIgnored : Prop :=
  ∀ (s : State) (off : Offset) (v : Word),
    (off ∈ ([0x00, 0x08, 0x10, 0x14, 0x18] : List Offset) ∨ (0x28 ≤ off.toNat ∧ off.toNat % 4 = 0)) →
    regWrite off v s = .next s

/-- An allowed access has a successor state, any other a bus error and none (60_exceptions.md R132, 20_memory.md R37).
The premise that no reset is outstanding is the model's reading of 70_reset_and_hazards.md R136 (log 9). -/
def Obligations.AccessCompletesOrIsABusError : Prop :=
  ∀ (s : State) (width : AccessWidth) (off : Offset) (v : Word) (a : BusAccess),
    s.needsReset = false → (a = .read width off ∨ a = .write width off v) →
    ((width = .w32 ∧ off.toNat % 4 = 0) → ∃ t, performAccess a s = .next t) ∧
      (¬ (width = .w32 ∧ off.toNat % 4 = 0) → ∃ r, performAccess a s = .fault r)

/-- A loss of power leaves a state of which the model says nothing: every access is then refused, and a reset ends it.
The event and the refusal are the model's (log 9), from 60_exceptions.md R131 and 70_reset_and_hazards.md R136. -/
def Obligations.NoAccessHasAMeaningBeforeReset : Prop :=
  (∀ s : State, ∃ t, performEvent .powerLoss s = .next t ∧ t.needsReset = true ∧ t.config = s.config) ∧
    (∀ (s : State) (a : BusAccess), s.needsReset = true → performEvent (.access a) s = .refused .beforeReset) ∧
    ∀ (s : State) (overlapping : Option BusAccess),
      ∃ t, performEvent (.reset overlapping) s = .next t ∧ t.needsReset = false

/-- 10_state.md R34: reset gives every piece of the engine's state its reset value, whatever access it overlaps and
whatever the state was (70_reset_and_hazards.md R133). `BUF`, which R34 leaves open, is not in the statement. -/
def Obligations.ResetGivesTheResetValues : Prop :=
  ∀ (s : State) (overlapping : Option BusAccess),
    ∃ t, performEvent (.reset overlapping) s = .next t ∧ t.config = s.config ∧
      t.engine.acc = 0 ∧ t.engine.a = 0 ∧ t.engine.b = 0 ∧ t.engine.c = 0 ∧ t.engine.bufcnt = 0 ∧
      t.engine.mode = .idle ∧ t.engine.len = 0 ∧ t.engine.seed = 0 ∧ t.engine.result = 0 ∧ t.engine.done = false ∧
      t.engine.err = false ∧ t.engine.errcode = .none ∧ regRead t.config t.engine 0x00 = 0x4F414154 ∧
      regRead t.config t.engine 0x08 =
        (0 : BitVec 18) ++ (if s.config.mixBShift = .left then 1 else 0 : BitVec 1) ++
          (if s.config.l2FoldMode = .literal then 1 else 0 : BitVec 1) ++ (0 : BitVec 12)

/-- 10_state.md R34 at the state after reset, for every variant: the registers as the host reads them. -/
def Obligations.StateAfterResetReadsAsListed : Prop :=
  ∀ config : Config,
    (State.resetOf config).config = config ∧
    (∀ off : Offset, off ≠ 0x00 → off ≠ 0x08 → regRead config (State.resetOf config).engine off = 0) ∧
      regRead config (State.resetOf config).engine 0x00 = 0x4F414154 ∧
      regRead config (State.resetOf config).engine 0x08 =
        (0 : BitVec 18) ++ (if config.mixBShift = .left then 1 else 0 : BitVec 1) ++
          (if config.l2FoldMode = .literal then 1 else 0 : BitVec 1) ++ (0 : BitVec 12) ∧
      regRead .default State.reset.engine 0x08 = 0

/-! ### The commands -/

/-- 43_control.md R108. -/
def Obligations.NopChangesNothing : Prop :=
  decode 0x00000000 = .legal .nop ∧ ∀ s : State, exec .nop s = .next s

/-- 43_control.md R109: `CLR_ERR` clears `ERR` and `ERRCODE` and nothing else, in every mode. -/
def Obligations.ClrErrClearsTheErrorOnly : Prop :=
  decode 0x30000000 = .legal .clrErr ∧
    ∀ s : State, exec .clrErr s = .next { s with engine := { s.engine with err := false, errcode := .none } }

/-- 41_oaat.md R81: `OAAT_START`, in every mode. -/
def Obligations.OaatStartOpensASession : Prop :=
  decode 0x01000000 = .legal .oaatStart ∧
    ∀ s : State, exec .oaatStart s = .next { s with
      engine := { s.engine with acc := 0, len := 0, bufcnt := 0, done := false, mode := .oaat } }

/-- 41_oaat.md R82: `OAAT_BYTE` absorbs one byte in `OAAT`, and records `BAD_SEQUENCE` in the other modes. -/
def Obligations.OaatByteAbsorbsOneByte : Prop :=
  (∀ v : Word, v &&& 0xFFFFFF00 = 0x02000000 → decode v = .legal (.oaatByte (v.extractLsb' 0 8))) ∧
  (∀ (byte : Byte) (s : State), s.engine.mode = .oaat →
    exec (.oaatByte byte) s = .next { s with
      engine := { s.engine with
        acc :=
          let acc1 := s.engine.acc + byte.signExtend 32
          let acc2 := acc1 + (acc1 <<< 10)
          acc2 ^^^ acc2.sshiftRight 6
        len := s.engine.len + 1 } }) ∧
  ∀ (byte : Byte) (s : State), s.engine.mode ≠ .oaat →
    exec (.oaatByte byte) s = .next (errorRecorded .badSequence s)

/-- 41_oaat.md R84: `OAAT_FINISH` finalises and delivers in `OAAT`, and records `BAD_SEQUENCE` in the other modes. -/
def Obligations.OaatFinishDeliversTheResult : Prop :=
  decode 0x03000000 = .legal .oaatFinish ∧
  (∀ s : State, s.engine.mode = .oaat →
    exec .oaatFinish s = .next (
      let acc1 := s.engine.acc + (s.engine.acc <<< 3)
      let acc2 := acc1 ^^^ acc1.sshiftRight 11
      let acc3 := acc2 + (acc2 <<< 15)
      { s with engine := { s.engine with acc := acc3, result := acc3, mode := .idle, done := true } })) ∧
  ∀ s : State, s.engine.mode ≠ .oaat → exec .oaatFinish s = .next (errorRecorded .badSequence s)

/-- 42_lookup2.md R93: `L2_START`, in every mode. -/
def Obligations.L2StartOpensASession : Prop :=
  (∀ v : Word, v &&& 0xFFFFFFFE = 0x11000000 → decode v = .legal (.l2Start (v.getLsbD 0))) ∧
  ∀ (seeded : Bool) (s : State),
    exec (.l2Start seeded) s = .next { s with
      engine := { s.engine with
        a := 0x9E3779B9
        b := 0x9E3779B9
        c := if seeded = true then s.engine.seed else 0
        bufcnt := 0
        len := 0
        done := false
        mode := .l2 } }

/-- 42_lookup2.md R95: `L2_BYTE` in `L2` takes the byte into `BUF[BUFCNT]`, counts it, and folds and mixes the block it
completes; in the other modes it records `BAD_SEQUENCE`. -/
def Obligations.L2ByteTakesOneByte : Prop :=
  (∀ v : Word, v &&& 0xFFFFFF00 = 0x12000000 → decode v = .legal (.l2Byte (v.extractLsb' 0 8))) ∧
  (∀ (byte : Byte) (s : State), s.engine.mode = .l2 → s.engine.bufcnt.val < 11 →
    exec (.l2Byte byte) s = .next { s with
      engine := { s.engine with
        buf := s.engine.buf.set s.engine.bufcnt.val byte
        len := s.engine.len + 1
        bufcnt := s.engine.bufcnt + 1 } }) ∧
  (∀ (byte : Byte) (s : State), s.engine.mode = .l2 → s.engine.bufcnt.val = 11 →
    exec (.l2Byte byte) s = .next (
      let k := s.engine.buf.set 11 byte
      let w := mixWords s.config
        { a := s.engine.a + foldBytes s.config k[0] k[1] k[2] k[3]
          b := s.engine.b + foldBytes s.config k[4] k[5] k[6] k[7]
          c := s.engine.c + foldBytes s.config k[8] k[9] k[10] k[11] }
      { s with
        engine := { s.engine with
          buf := k
          len := s.engine.len + 1
          bufcnt := 0
          a := w.a
          b := w.b
          c := w.c } })) ∧
  ∀ (byte : Byte) (s : State), s.engine.mode ≠ .l2 → exec (.l2Byte byte) s = .next (errorRecorded .badSequence s)

/-- 42_lookup2.md R97: `L2_FINISH` in `L2` adds the length and the tail, mixes and delivers `C`; in the other modes it
records `BAD_SEQUENCE`. -/
def Obligations.L2FinishDeliversTheResult : Prop :=
  decode 0x13000000 = .legal .l2Finish ∧
  (∀ s : State, s.engine.mode = .l2 →
    exec .l2Finish s = .next (
      let w := mixWords s.config
        (tailFold { a := s.engine.a, b := s.engine.b, c := s.engine.c + s.engine.len }
          (s.engine.buf.toList.take s.engine.bufcnt.val))
      { s with
        engine := { s.engine with
          a := w.a
          b := w.b
          c := w.c
          result := w.c
          bufcnt := 0
          mode := .idle
          done := true } })) ∧
  ∀ s : State, s.engine.mode ≠ .l2 → exec .l2Finish s = .next (errorRecorded .badSequence s)

/-- 40_mix.md R78: `MIX` in `IDLE` applies the Mixing Function to `A`, `B`, `C`; in the other modes it records
`BAD_SEQUENCE`. -/
def Obligations.MixCommandMixesTheWords : Prop :=
  decode 0x20000000 = .legal .mix ∧
  (∀ s : State, s.engine.mode = .idle →
    exec .mix s = .next (
      let w := mixWords s.config { a := s.engine.a, b := s.engine.b, c := s.engine.c }
      { s with engine := { s.engine with a := w.a, b := w.b, c := w.c } })) ∧
  ∀ s : State, s.engine.mode ≠ .idle → exec .mix s = .next (errorRecorded .badSequence s)

/-- A command that the mode does not accept records `BAD_SEQUENCE` and changes nothing else; an accepted one completes and
raises nothing, so it leaves `ERR` and `ERRCODE` alone, unless it is `CLR_ERR`; an illegal word records `ILLEGAL_CMD` in
every mode. `accepts` is the acceptance table of 43_control.md R110, which the spec marks as its own derivation ("derived:
from rules R107, R108, R109 and the rules they dispatch to"); the errors are those of 60_exceptions.md R115 and R117. -/
def Obligations.ModesAcceptCommandsAsTabled : Prop :=
  (∀ (i : Instr) (s : State), accepts s.engine.mode i = false → exec i s = .next (errorRecorded .badSequence s)) ∧
  (∀ (i : Instr) (s : State), accepts s.engine.mode i = true → ∃ t, exec i s = .next t ∧
    (i ≠ .clrErr → t.engine.err = s.engine.err ∧ t.engine.errcode = s.engine.errcode)) ∧
  ∀ (v : Word) (why : IllegalWord) (s : State), decode v = .illegal why →
    execute v s = .next (errorRecorded .illegalCmd s)

/-- 60_exceptions.md R116: the first error since the last clear is kept. -/
def Obligations.FirstErrorIsKept : Prop :=
  ∀ (code : ErrCode) (s : State),
    (s.engine.err = false →
      raiseError code s = .next { s with engine := { s.engine with err := true, errcode := code } }) ∧
    (s.engine.err = true → raiseError code s = .next s)

/-! ### Arithmetic -/

/-- 40_mix.md R71: the nine sub-steps, in both variants. -/
def Obligations.MixIsNineSubsteps : Prop :=
  ∀ (config : Config) (a b c : Word),
    mixWords config { a, b, c } =
      let bShift (x : Word) (n : Nat) : Word := if config.mixBShift = .right then x >>> n else x <<< n
      let a := a - b; let a := a - c; let a := a ^^^ (c >>> 13)
      let b := b - c; let b := b - a; let b := b ^^^ bShift a 8
      let c := c - a; let c := c - b; let c := c ^^^ (b >>> 13)
      let a := a - b; let a := a - c; let a := a ^^^ (c >>> 12)
      let b := b - c; let b := b - a; let b := b ^^^ bShift a 16
      let c := c - a; let c := c - b; let c := c ^^^ (b >>> 5)
      let a := a - b; let a := a - c; let a := a ^^^ (c >>> 3)
      let b := b - c; let b := b - a; let b := b ^^^ bShift a 10
      let c := c - a; let c := c - b; let c := c ^^^ (b >>> 15)
      { a, b, c }

/-- The Mixing Function is one to one, as the spec derives ("each sub-step of 40_mix.md rule R71 is invertible given the
other two words", 42_lookup2.md R103), and 0, 0, 0 is a fixed point of it in both variants, as it derives in 40_mix.md
R75. -/
def Obligations.MixIsInjective : Prop :=
  ∀ config : Config, Function.Injective (mixWords config) ∧
    mixWords config { a := 0, b := 0, c := 0 } = { a := 0, b := 0, c := 0 }

/-- 41_oaat.md R80, on signed integers: the byte is read signed, sums wrap, and the right shifts are floor divisions of
the signed reading. -/
def Obligations.OaatArithmeticIsSigned : Prop :=
  (∀ (acc : Word) (byte : Byte),
    oaatStep acc byte =
      let acc1 := BitVec.ofInt 32 (acc.toInt + byte.toInt)
      let acc2 := BitVec.ofInt 32 (acc1.toInt + acc1.toInt * 1024)
      acc2 ^^^ BitVec.ofInt 32 (acc2.toInt / 64)) ∧
  (∀ acc : Word,
    oaatFinal acc =
      let acc1 := BitVec.ofInt 32 (acc.toInt + acc.toInt * 8)
      let acc2 := acc1 ^^^ BitVec.ofInt 32 (acc1.toInt / 2048)
      BitVec.ofInt 32 (acc2.toInt + acc2.toInt * 32768)) ∧
  ∀ m : List Byte, oaatHash m = oaatFinal (m.foldl oaatStep 0)

/-- The empty input and inputs of zero bytes hash to 0, and leading zero bytes change nothing, as the spec derives from
R80 (41_oaat.md R86, R87). -/
def Obligations.LeadingZeroBytesDoNotChangeOaat : Prop :=
  oaatHash [] = 0 ∧
    (∀ n : Nat, oaatHash (List.replicate n 0) = 0) ∧
    ∀ (n : Nat) (m : List Byte), oaatHash (List.replicate n 0 ++ m) = oaatHash m

/-- The corrected fold is little-endian and reads bytes unsigned (42_lookup2.md R96); OR and addition agree, as the spec
derives there. Under `CORRECTED` it is the fold of every block, so a block step is the Mixing Function of the words plus
the little-endian words of the block (R94). -/
def Obligations.CorrectedFoldIsLittleEndian : Prop :=
  (∀ k0 k1 k2 k3 : Byte,
    foldCorrected k0 k1 k2 k3 =
      (k0.setWidth 32 ||| (k1.setWidth 32 <<< 8) ||| (k2.setWidth 32 <<< 16) ||| (k3.setWidth 32 <<< 24)) ∧
    (foldCorrected k0 k1 k2 k3).toNat = k0.toNat + 256 * k1.toNat + 65536 * k2.toNat + 16777216 * k3.toNat) ∧
  ∀ config : Config, config.l2FoldMode = .corrected →
    (∀ k0 k1 k2 k3 : Byte, foldBytes config k0 k1 k2 k3 = foldCorrected k0 k1 k2 k3) ∧
    ∀ (w : Words3) (k : Vector Byte 12),
      blockStep config w k = mixWords config
        { a := w.a + BitVec.ofNat 32
            (k[0].toNat + 256 * k[1].toNat + 65536 * k[2].toNat + 16777216 * k[3].toNat)
          b := w.b + BitVec.ofNat 32
            (k[4].toNat + 256 * k[5].toNat + 65536 * k[6].toNat + 16777216 * k[7].toNat)
          c := w.c + BitVec.ofNat 32
            (k[8].toNat + 256 * k[9].toNat + 65536 * k[10].toNat + 16777216 * k[11].toNat) }

/-- The literal fold, on unbounded integers, is 0 modulo 2^32 for all bytes. Under `LITERAL` it is the fold of every block
(42_lookup2.md R94), so a block adds nothing to the words, as the spec derives from its definition (R99). -/
def Obligations.LiteralFoldIsZero : Prop :=
  (∀ x y z w : Byte,
    foldLiteral x y z w = BitVec.ofNat 32 ((x.toNat + y.toNat) * 2 ^ (48 + z.toNat + w.toNat)) ∧
      foldLiteral x y z w = 0) ∧
  ∀ (config : Config) (w : Words3) (k : Vector Byte 12), config.l2FoldMode = .literal →
    (∀ x y z w : Byte, foldBytes config x y z w = foldLiteral x y z w) ∧ blockStep config w k = mixWords config w

/-- The tail fold, byte by byte from the highest offset down (42_lookup2.md R98, where the byte positions are the spec's
own: "the source does not list the shift amounts, so they are derived"). -/
def Obligations.TailFoldPlacesEachByte : Prop :=
  ∀ (a b c : Word) (t : List Byte), t.length ≤ 11 →
    tailFold { a, b, c } t =
      let r := t.length
      let byte (i : Nat) : Word := (t.getD i 0).setWidth 32
      let c := if 11 ≤ r then c + (byte 10 <<< 24) else c
      let c := if 10 ≤ r then c + (byte 9 <<< 16) else c
      let c := if 9 ≤ r then c + (byte 8 <<< 8) else c
      let b := if 8 ≤ r then b + (byte 7 <<< 24) else b
      let b := if 7 ≤ r then b + (byte 6 <<< 16) else b
      let b := if 6 ≤ r then b + (byte 5 <<< 8) else b
      let b := if 5 ≤ r then b + byte 4 else b
      let a := if 4 ≤ r then a + (byte 3 <<< 24) else a
      let a := if 3 ≤ r then a + (byte 2 <<< 16) else a
      let a := if 2 ≤ r then a + (byte 1 <<< 8) else a
      let a := if 1 ≤ r then a + byte 0 else a
      { a, b, c }

/-- 42_lookup2.md R92: the hash as a function of the whole input. The block loop consumes twelve bytes while there are
twelve; then the length, the tail and the last mix; the result is `c`. -/
def Obligations.Lookup2ConsumesBlocksThenTail : Prop :=
  (∀ (config : Config) (w : Words3) (k : Vector Byte 12) (m : List Byte),
    blockLoop config w (k.toList ++ m) = blockLoop config (blockStep config w k) m) ∧
  (∀ (config : Config) (w : Words3) (m : List Byte), m.length < 12 → blockLoop config w m = (w, m)) ∧
  ∀ (config : Config) (m : List Byte) (seed : Word),
    lookup2 config m seed =
      let p := blockLoop config { a := 0x9E3779B9, b := 0x9E3779B9, c := seed } m
      (mixWords config (tailFold { a := p.1.a, b := p.1.b, c := p.1.c + BitVec.ofNat 32 m.length } p.2)).c

/-- Under `LITERAL` an input hashes as if every complete block were zero bytes: the spec's own consequence in
42_lookup2.md R99. -/
def Obligations.LiteralHashesBlocksAsZeros : Prop :=
  ∀ (x : MixBShift) (m : List Byte) (seed : Word),
    lookup2 { l2FoldMode := .literal, mixBShift := x } m seed =
      lookup2 { l2FoldMode := .corrected, mixBShift := x }
        (List.replicate (12 * (m.length / 12)) 0 ++ m.drop (12 * (m.length / 12))) seed

/-- The final triples for two different seeds always differ: the spec's own inference in 42_lookup2.md R103. -/
def Obligations.SeedsGiveDifferentTriples : Prop :=
  ∀ (config : Config) (m : List Byte) (seed seed' : Word), seed ≠ seed' →
    lookup2Words config m seed ≠ lookup2Words config m seed'

/-! ### Whole-machine rules

"A loss of power" in these statements is the model's event (log 9), from 60_exceptions.md R131. -/

/-- The invariant holds at reset, in every variant. -/
def Obligations.InvariantHoldsAtReset : Prop :=
  StateInv State.reset ∧ ∀ config : Config, StateInv (State.resetOf config)

/-- The invariant is kept by every step, from every state that has it (10_state.md R18, R20, R25, R26). While a reset is
outstanding it says nothing of the engine: the model's reading of 70_reset_and_hazards.md R136 (log 9). -/
def Obligations.EveryStepKeepsTheInvariant : Prop :=
  ∀ s t : State, StateInv s → step s = .next t → StateInv t

/-- No step changes the parameters (10_state.md R33); that the state carries two of them is the model's choice (log 1). -/
def Obligations.NoStepChangesTheParameters : Prop :=
  ∀ s t : State, step s = .next t → t.config = s.config

/-- 10_state.md R22: only a FINISH in its own mode writes `RESULT`; otherwise only a reset or a loss of power does. -/
def Obligations.OnlyFinishWritesResult : Prop :=
  ∀ (event : BusEvent) (s t : State), performEvent event s = .next t → t.engine.result ≠ s.engine.result →
    (event = commandEvent .oaatFinish ∧ s.engine.mode = .oaat) ∨
      (event = commandEvent .l2Finish ∧ s.engine.mode = .l2) ∨ resets event = true

/-- 10_state.md R19: only the START and FINISH commands write `MODE`, to the mode the rule gives; otherwise only a reset
or a loss of power does. -/
def Obligations.OnlyStartAndFinishWriteMode : Prop :=
  ∀ (event : BusEvent) (s t : State), performEvent event s = .next t → t.engine.mode ≠ s.engine.mode →
    (event = commandEvent .oaatStart ∧ t.engine.mode = .oaat) ∨
      (∃ seeded, event = commandEvent (.l2Start seeded) ∧ t.engine.mode = .l2) ∨
      (event = commandEvent .oaatFinish ∧ s.engine.mode = .oaat ∧ t.engine.mode = .idle) ∨
      (event = commandEvent .l2Finish ∧ s.engine.mode = .l2 ∧ t.engine.mode = .idle) ∨ resets event = true

/-- 10_state.md R25: `DONE` becomes 1 by a completing FINISH and 0 by a START; otherwise only a reset or a loss of power
changes it. -/
def Obligations.OnlyStartAndFinishWriteDone : Prop :=
  ∀ (event : BusEvent) (s t : State), performEvent event s = .next t → t.engine.done ≠ s.engine.done →
    (t.engine.done = true ∧
      ((event = commandEvent .oaatFinish ∧ s.engine.mode = .oaat) ∨
        (event = commandEvent .l2Finish ∧ s.engine.mode = .l2))) ∨
      (t.engine.done = false ∧
        (event = commandEvent .oaatStart ∨ ∃ seeded, event = commandEvent (.l2Start seeded))) ∨
      resets event = true

/-- 10_state.md R26: a recorded error is sticky; only `CLR_ERR`, a reset or a loss of power changes it. -/
def Obligations.RecordedErrorIsSticky : Prop :=
  ∀ (event : BusEvent) (s t : State), performEvent event s = .next t → s.engine.err = true →
    (t.engine.err = true ∧ t.engine.errcode = s.engine.errcode) ∨ event = commandEvent .clrErr ∨ resets event = true

/-- 10_state.md R16: only the three OAAT commands write `ACC`; no host write reaches it. -/
def Obligations.OnlyOaatCommandsWriteAcc : Prop :=
  ∀ (event : BusEvent) (s t : State), performEvent event s = .next t → t.engine.acc ≠ s.engine.acc →
    event = commandEvent .oaatStart ∨ (∃ byte, event = commandEvent (.oaatByte byte)) ∨
      event = commandEvent .oaatFinish ∨ resets event = true

/-- 10_state.md R17: what writes `A`, `B`, `C`. -/
def Obligations.OnlyLookup2MixAndIdleWritesChangeTheWords : Prop :=
  ∀ (event : BusEvent) (s t : State), performEvent event s = .next t → t.engine.words ≠ s.engine.words →
    (∃ seeded, event = commandEvent (.l2Start seeded)) ∨
      (∃ byte, event = commandEvent (.l2Byte byte) ∧ s.engine.mode = .l2 ∧ s.engine.bufcnt.val = 11) ∨
      (event = commandEvent .l2Finish ∧ s.engine.mode = .l2) ∨
      (event = commandEvent .mix ∧ s.engine.mode = .idle) ∨
      (∃ off v, off ∈ ([0x1C, 0x20, 0x24] : List Offset) ∧ event = .access (.write .w32 off v) ∧
        s.engine.mode = .idle) ∨
      resets event = true

/-- 10_state.md R21, 20_memory.md R48: only a write of `SEED` changes it, to the value written; otherwise only a reset or
a loss of power does. -/
def Obligations.OnlySeedWritesChangeSeed : Prop :=
  ∀ (event : BusEvent) (s t : State), performEvent event s = .next t → t.engine.seed ≠ s.engine.seed →
    event = .access (.write .w32 0x0C t.engine.seed) ∨ resets event = true

/-- 10_state.md R20: `LEN` is set to 0 by a START and grows by one, modulo 2^32, with each byte that is not rejected; and
nothing else changes it but a reset or a loss of power. The premise that no reset is outstanding is the model's (log 9). -/
def Obligations.LenCountsAcceptedBytes : Prop :=
  (∀ s : State, s.needsReset = false →
    (∃ t, performEvent (commandEvent .oaatStart) s = .next t ∧ t.engine.len = 0) ∧
    (∀ seeded, ∃ t, performEvent (commandEvent (.l2Start seeded)) s = .next t ∧ t.engine.len = 0) ∧
    (s.engine.mode = .oaat → ∀ byte,
      ∃ t, performEvent (commandEvent (.oaatByte byte)) s = .next t ∧ t.engine.len = s.engine.len + 1) ∧
    (s.engine.mode = .l2 → ∀ byte,
      ∃ t, performEvent (commandEvent (.l2Byte byte)) s = .next t ∧ t.engine.len = s.engine.len + 1)) ∧
  ∀ (event : BusEvent) (s t : State), performEvent event s = .next t → t.engine.len ≠ s.engine.len →
    (t.engine.len = 0 ∧
      (event = commandEvent .oaatStart ∨ ∃ seeded, event = commandEvent (.l2Start seeded))) ∨
      (t.engine.len = s.engine.len + 1 ∧
        ((s.engine.mode = .oaat ∧ ∃ byte, event = commandEvent (.oaatByte byte)) ∨
          (s.engine.mode = .l2 ∧ ∃ byte, event = commandEvent (.l2Byte byte)))) ∨
      resets event = true

/-- The bytes `BUF[BUFCNT..11]` reach nothing: two states that differ only there step alike. The spec infers it in
10_state.md R32; that stale bytes stay where they are is the model's choice (log 8). It is the model's choice too that a
free value is a function of the counter in the state (log 10): where the next event is a loss of power or a reset that
overlaps an access, both steps draw the same free values, and only therefore do their outcomes agree. -/
def Obligations.HiddenBytesReachNothing : Prop :=
  ∀ s t : State, SameButHiddenState s t → SameOutcome (step s) (step t)

/-! ### Sessions -/

/-- A session through the command interface computes the OAAT hash, with any harmless accesses before, between and after
its commands: the spec derives it in 41_oaat.md R85. -/
def Obligations.OaatSessionComputesTheHash : Prop :=
  ∀ (s : State) (m : List Byte) (events : List BusEvent), s.needsReset = false → carries events (oaatSession m) →
    ∃ t, performAll events s = .next t ∧
      t.engine.result = oaatHash m ∧ t.engine.acc = oaatHash m ∧ t.engine.len = BitVec.ofNat 32 m.length ∧
      t.engine.mode = .idle ∧ t.engine.done = true ∧ t.engine.err = s.engine.err ∧
      t.engine.errcode = s.engine.errcode

/-- A session through the command interface computes the lookup2 hash, seeded from `SEED` or not, with any harmless
accesses after its start: the spec derives it in 42_lookup2.md R100. -/
def Obligations.Lookup2SessionComputesTheHash : Prop :=
  ∀ (s : State) (m : List Byte) (input : List BusEvent), s.needsReset = false → carries input (l2Input m) →
    (∀ seed : Word, ∃ t,
      performAll (.access (.write .w32 0x0C seed) :: .access (.write .w32 0x04 0x11000001) :: input) s = .next t ∧
        L2Delivered s t m seed) ∧
    ∃ t, performAll (.access (.write .w32 0x04 0x11000000) :: input) s = .next t ∧ L2Delivered s t m 0

/-- In the middle of a lookup2 session `A`, `B`, `C` are the words after the last complete block, `RESULT` is still the
one before and `DONE` is 0 (the spec derives it in 70_reset_and_hazards.md R141); `BUFCNT` counts the bytes of the next
block and `BUF[i]` is input byte `12·k + i` (10_state.md R18). -/
def Obligations.OpenLookup2SessionHoldsItsTail : Prop :=
  ∀ (s : State) (m : List Byte) (seeded : Bool) (input : List BusEvent),
    s.needsReset = false → carries input (m.map .l2Byte) →
    ∃ t, performAll (commandEvent (.l2Start seeded) :: input) s = .next t ∧ t.engine.mode = .l2 ∧
      t.engine.words =
        (blockLoop s.config
          { a := 0x9E3779B9, b := 0x9E3779B9, c := if seeded = true then s.engine.seed else 0 } m).1 ∧
      t.engine.bufcnt.val = m.length % 12 ∧
      (∀ i : Fin 12, i.val < m.length % 12 → t.engine.buf[i] = m.getD (12 * (m.length / 12) + i.val) 0) ∧
      t.engine.result = s.engine.result ∧ t.engine.done = false

/-- A session whatever happens in it: if no error is recorded from its start to its end, the result is the hash of the
bytes the host sent (the spec derives it in 60_exceptions.md R123). -/
def Obligations.CleanOaatSessionHashedWhatWasSent : Prop :=
  ∀ (s : State) (inside : List BusEvent),
    s.needsReset = false → s.engine.err = false → (∀ event ∈ inside, insideSession event = true) →
    ∃ t, performAll (commandEvent .oaatStart :: (inside ++ [commandEvent .oaatFinish])) s = .next t ∧
      t.engine.done = true ∧ (t.engine.err = false → t.engine.result = oaatHash (inside.filterMap oaatInput))

/-! ### The window and time -/

/-- The window stands at `ENGINE_BASE`, 64-byte aligned, 64 bytes long, and its bytes are little-endian (20_memory.md
R35, R45). How a bus address becomes an offset is the model's reading (logs 2, 12). -/
def Obligations.WindowStandsAtItsBase : Prop :=
  Config.engineBase % 64 = 0 ∧
    (∀ off : Offset, windowOffset (Config.engineBase + off.toNat) = some off) ∧
    (∀ addr : Nat, (addr < Config.engineBase ∨ Config.engineBase + 64 ≤ addr) → windowOffset addr = none) ∧
    ∀ (config : Config) (e : Engine) (off : Offset), off.toNat % 4 = 0 →
      regRead config e off =
        windowByte config e (off + 3) ++ windowByte config e (off + 2) ++ windowByte config e (off + 1) ++
          windowByte config e off

/-- Every command takes at least one cycle (00_scope.md R9), and a session of n bytes costs n BYTE commands plus two, as
the spec derives in 70_reset_and_hazards.md R142. `T_CMD` is an opaque parameter (log 3). -/
def Obligations.SessionCostIsLinear : Prop :=
  (∀ i : Instr, 1 ≤ Config.tCmd (opcodeOf i)) ∧
    (∀ m : List Byte,
      busCycles (oaatSession m) = m.length * Config.tCmd 0x02 + (Config.tCmd 0x01 + Config.tCmd 0x03)) ∧
    ∀ (m : List Byte) (seeded : Bool),
      busCycles (.l2Start seeded :: l2Input m) = m.length * Config.tCmd 0x12 + (Config.tCmd 0x11 + Config.tCmd 0x13)

/-- A string pseudo-instruction stands for the accesses of a session over its UTF-8 bytes (30_encoding.md R68). UTF-8
itself is presumed (log 18). -/
def Obligations.StringPseudoExpandsToASession : Prop :=
  ∀ (text : List Char),
    (assemble (.oaatStr text)).map (List.map BusEvent.access) = some ((oaatSession (textBytes text)).map commandEvent) ∧
    (assemble (.l2Str text none)).map (List.map BusEvent.access) =
      some ((.l2Start false :: l2Input (textBytes text)).map commandEvent) ∧
    ∀ seed : Int, 0 ≤ seed → seed < 4294967296 →
      (assemble (.l2Str text (some seed))).map (List.map BusEvent.access) =
        some (.access (.write .w32 0x0C (BitVec.ofInt 32 seed)) ::
          (.l2Start true :: l2Input (textBytes text)).map commandEvent)
end

