-- ==== Sys2Proof/Laws/State.lean ====
section
/-!
SUPPORT. One lemma per field per update of the state and of the engine, each true by unfolding one update, so that no
later proof unfolds one.
-/

namespace Sys2Proof.Machine

section StateUpdates
variable (s : State)

/-! ### `withEngine` -/
@[simp] theorem State.withEngine_config (e : Engine) : (s.withEngine e).config = s.config := rfl
@[simp] theorem State.withEngine_engine (e : Engine) : (s.withEngine e).engine = e := rfl
@[simp] theorem State.withEngine_pending (e : Engine) : (s.withEngine e).pending = s.pending := rfl
@[simp] theorem State.withEngine_response (e : Engine) : (s.withEngine e).response = s.response := rfl
@[simp] theorem State.withEngine_needsReset (e : Engine) : (s.withEngine e).needsReset = s.needsReset := rfl
@[simp] theorem State.withEngine_freeCount (e : Engine) : (s.withEngine e).freeCount = s.freeCount := rfl

/-! ### `withPending` -/
@[simp] theorem State.withPending_config (evs : List BusEvent) : (s.withPending evs).config = s.config := rfl
@[simp] theorem State.withPending_engine (evs : List BusEvent) : (s.withPending evs).engine = s.engine := rfl
@[simp] theorem State.withPending_pending (evs : List BusEvent) : (s.withPending evs).pending = evs := rfl
@[simp] theorem State.withPending_response (evs : List BusEvent) : (s.withPending evs).response = s.response := rfl
@[simp] theorem State.withPending_needsReset (evs : List BusEvent) : (s.withPending evs).needsReset = s.needsReset := rfl
@[simp] theorem State.withPending_freeCount (evs : List BusEvent) : (s.withPending evs).freeCount = s.freeCount := rfl

/-! ### `withResponse` -/
@[simp] theorem State.withResponse_config (r : Option BusResponse) : (s.withResponse r).config = s.config := rfl
@[simp] theorem State.withResponse_engine (r : Option BusResponse) : (s.withResponse r).engine = s.engine := rfl
@[simp] theorem State.withResponse_pending (r : Option BusResponse) : (s.withResponse r).pending = s.pending := rfl
@[simp] theorem State.withResponse_response (r : Option BusResponse) : (s.withResponse r).response = r := rfl
@[simp] theorem State.withResponse_needsReset (r : Option BusResponse) : (s.withResponse r).needsReset = s.needsReset := rfl
@[simp] theorem State.withResponse_freeCount (r : Option BusResponse) : (s.withResponse r).freeCount = s.freeCount := rfl

theorem State.withEngine_self : s.withEngine s.engine = s := rfl

@[simp] theorem State.withEngine_withEngine (e f : Engine) : (s.withEngine e).withEngine f = s.withEngine f := rfl

@[simp] theorem State.withPending_withPending (p q : List BusEvent) :
    (s.withPending p).withPending q = s.withPending q := rfl

end StateUpdates

section EngineUpdates
variable (e : Engine)

/-! ### `clearError` -/
@[simp] theorem Engine.clearError_acc : (e.clearError).acc = e.acc := rfl
@[simp] theorem Engine.clearError_a : (e.clearError).a = e.a := rfl
@[simp] theorem Engine.clearError_b : (e.clearError).b = e.b := rfl
@[simp] theorem Engine.clearError_c : (e.clearError).c = e.c := rfl
@[simp] theorem Engine.clearError_buf : (e.clearError).buf = e.buf := rfl
@[simp] theorem Engine.clearError_bufcnt : (e.clearError).bufcnt = e.bufcnt := rfl
@[simp] theorem Engine.clearError_mode : (e.clearError).mode = e.mode := rfl
@[simp] theorem Engine.clearError_len : (e.clearError).len = e.len := rfl
@[simp] theorem Engine.clearError_seed : (e.clearError).seed = e.seed := rfl
@[simp] theorem Engine.clearError_result : (e.clearError).result = e.result := rfl
@[simp] theorem Engine.clearError_done : (e.clearError).done = e.done := rfl
@[simp] theorem Engine.clearError_err : (e.clearError).err = false := rfl
@[simp] theorem Engine.clearError_errcode : (e.clearError).errcode = .none := rfl

/-! ### `setWords` -/
@[simp] theorem Engine.setWords_acc (w : Words3) : (e.setWords w).acc = e.acc := rfl
@[simp] theorem Engine.setWords_a (w : Words3) : (e.setWords w).a = w.a := rfl
@[simp] theorem Engine.setWords_b (w : Words3) : (e.setWords w).b = w.b := rfl
@[simp] theorem Engine.setWords_c (w : Words3) : (e.setWords w).c = w.c := rfl
@[simp] theorem Engine.setWords_buf (w : Words3) : (e.setWords w).buf = e.buf := rfl
@[simp] theorem Engine.setWords_bufcnt (w : Words3) : (e.setWords w).bufcnt = e.bufcnt := rfl
@[simp] theorem Engine.setWords_mode (w : Words3) : (e.setWords w).mode = e.mode := rfl
@[simp] theorem Engine.setWords_len (w : Words3) : (e.setWords w).len = e.len := rfl
@[simp] theorem Engine.setWords_seed (w : Words3) : (e.setWords w).seed = e.seed := rfl
@[simp] theorem Engine.setWords_result (w : Words3) : (e.setWords w).result = e.result := rfl
@[simp] theorem Engine.setWords_done (w : Words3) : (e.setWords w).done = e.done := rfl
@[simp] theorem Engine.setWords_err (w : Words3) : (e.setWords w).err = e.err := rfl
@[simp] theorem Engine.setWords_errcode (w : Words3) : (e.setWords w).errcode = e.errcode := rfl

/-! ### `startOaat` -/
@[simp] theorem Engine.startOaat_acc : (e.startOaat).acc = 0 := rfl
@[simp] theorem Engine.startOaat_a : (e.startOaat).a = e.a := rfl
@[simp] theorem Engine.startOaat_b : (e.startOaat).b = e.b := rfl
@[simp] theorem Engine.startOaat_c : (e.startOaat).c = e.c := rfl
@[simp] theorem Engine.startOaat_buf : (e.startOaat).buf = e.buf := rfl
@[simp] theorem Engine.startOaat_bufcnt : (e.startOaat).bufcnt = 0 := rfl
@[simp] theorem Engine.startOaat_mode : (e.startOaat).mode = .oaat := rfl
@[simp] theorem Engine.startOaat_len : (e.startOaat).len = 0 := rfl
@[simp] theorem Engine.startOaat_seed : (e.startOaat).seed = e.seed := rfl
@[simp] theorem Engine.startOaat_result : (e.startOaat).result = e.result := rfl
@[simp] theorem Engine.startOaat_done : (e.startOaat).done = false := rfl
@[simp] theorem Engine.startOaat_err : (e.startOaat).err = e.err := rfl
@[simp] theorem Engine.startOaat_errcode : (e.startOaat).errcode = e.errcode := rfl

/-! ### `absorbOaat` -/
@[simp] theorem Engine.absorbOaat_acc (byte : Byte) : (e.absorbOaat byte).acc = oaatStep e.acc byte := rfl
@[simp] theorem Engine.absorbOaat_a (byte : Byte) : (e.absorbOaat byte).a = e.a := rfl
@[simp] theorem Engine.absorbOaat_b (byte : Byte) : (e.absorbOaat byte).b = e.b := rfl
@[simp] theorem Engine.absorbOaat_c (byte : Byte) : (e.absorbOaat byte).c = e.c := rfl
@[simp] theorem Engine.absorbOaat_buf (byte : Byte) : (e.absorbOaat byte).buf = e.buf := rfl
@[simp] theorem Engine.absorbOaat_bufcnt (byte : Byte) : (e.absorbOaat byte).bufcnt = e.bufcnt := rfl
@[simp] theorem Engine.absorbOaat_mode (byte : Byte) : (e.absorbOaat byte).mode = e.mode := rfl
@[simp] theorem Engine.absorbOaat_len (byte : Byte) : (e.absorbOaat byte).len = e.len + 1 := rfl
@[simp] theorem Engine.absorbOaat_seed (byte : Byte) : (e.absorbOaat byte).seed = e.seed := rfl
@[simp] theorem Engine.absorbOaat_result (byte : Byte) : (e.absorbOaat byte).result = e.result := rfl
@[simp] theorem Engine.absorbOaat_done (byte : Byte) : (e.absorbOaat byte).done = e.done := rfl
@[simp] theorem Engine.absorbOaat_err (byte : Byte) : (e.absorbOaat byte).err = e.err := rfl
@[simp] theorem Engine.absorbOaat_errcode (byte : Byte) : (e.absorbOaat byte).errcode = e.errcode := rfl

/-! ### `finishOaat` -/
@[simp] theorem Engine.finishOaat_acc : (e.finishOaat).acc = oaatFinal e.acc := rfl
@[simp] theorem Engine.finishOaat_a : (e.finishOaat).a = e.a := rfl
@[simp] theorem Engine.finishOaat_b : (e.finishOaat).b = e.b := rfl
@[simp] theorem Engine.finishOaat_c : (e.finishOaat).c = e.c := rfl
@[simp] theorem Engine.finishOaat_buf : (e.finishOaat).buf = e.buf := rfl
@[simp] theorem Engine.finishOaat_bufcnt : (e.finishOaat).bufcnt = e.bufcnt := rfl
@[simp] theorem Engine.finishOaat_mode : (e.finishOaat).mode = .idle := rfl
@[simp] theorem Engine.finishOaat_len : (e.finishOaat).len = e.len := rfl
@[simp] theorem Engine.finishOaat_seed : (e.finishOaat).seed = e.seed := rfl
@[simp] theorem Engine.finishOaat_result : (e.finishOaat).result = oaatFinal e.acc := rfl
@[simp] theorem Engine.finishOaat_done : (e.finishOaat).done = true := rfl
@[simp] theorem Engine.finishOaat_err : (e.finishOaat).err = e.err := rfl
@[simp] theorem Engine.finishOaat_errcode : (e.finishOaat).errcode = e.errcode := rfl

/-! ### `startL2` -/
@[simp] theorem Engine.startL2_acc (seeded : Bool) : (e.startL2 seeded).acc = e.acc := rfl
@[simp] theorem Engine.startL2_a (seeded : Bool) : (e.startL2 seeded).a = golden := rfl
@[simp] theorem Engine.startL2_b (seeded : Bool) : (e.startL2 seeded).b = golden := rfl
@[simp] theorem Engine.startL2_c (seeded : Bool) : (e.startL2 seeded).c = seedOperand seeded e.seed := rfl
@[simp] theorem Engine.startL2_buf (seeded : Bool) : (e.startL2 seeded).buf = e.buf := rfl
@[simp] theorem Engine.startL2_bufcnt (seeded : Bool) : (e.startL2 seeded).bufcnt = 0 := rfl
@[simp] theorem Engine.startL2_mode (seeded : Bool) : (e.startL2 seeded).mode = .l2 := rfl
@[simp] theorem Engine.startL2_len (seeded : Bool) : (e.startL2 seeded).len = 0 := rfl
@[simp] theorem Engine.startL2_seed (seeded : Bool) : (e.startL2 seeded).seed = e.seed := rfl
@[simp] theorem Engine.startL2_result (seeded : Bool) : (e.startL2 seeded).result = e.result := rfl
@[simp] theorem Engine.startL2_done (seeded : Bool) : (e.startL2 seeded).done = false := rfl
@[simp] theorem Engine.startL2_err (seeded : Bool) : (e.startL2 seeded).err = e.err := rfl
@[simp] theorem Engine.startL2_errcode (seeded : Bool) : (e.startL2 seeded).errcode = e.errcode := rfl

/-! ### `takeByte` -/
@[simp] theorem Engine.takeByte_acc (byte : Byte) : (e.takeByte byte).acc = e.acc := rfl
@[simp] theorem Engine.takeByte_a (byte : Byte) : (e.takeByte byte).a = e.a := rfl
@[simp] theorem Engine.takeByte_b (byte : Byte) : (e.takeByte byte).b = e.b := rfl
@[simp] theorem Engine.takeByte_c (byte : Byte) : (e.takeByte byte).c = e.c := rfl
@[simp] theorem Engine.takeByte_buf (byte : Byte) :
    (e.takeByte byte).buf = e.buf.set e.bufcnt.val byte e.bufcnt.isLt := rfl
@[simp] theorem Engine.takeByte_bufcnt (byte : Byte) : (e.takeByte byte).bufcnt = e.bufcnt := rfl
@[simp] theorem Engine.takeByte_mode (byte : Byte) : (e.takeByte byte).mode = e.mode := rfl
@[simp] theorem Engine.takeByte_len (byte : Byte) : (e.takeByte byte).len = e.len + 1 := rfl
@[simp] theorem Engine.takeByte_seed (byte : Byte) : (e.takeByte byte).seed = e.seed := rfl
@[simp] theorem Engine.takeByte_result (byte : Byte) : (e.takeByte byte).result = e.result := rfl
@[simp] theorem Engine.takeByte_done (byte : Byte) : (e.takeByte byte).done = e.done := rfl
@[simp] theorem Engine.takeByte_err (byte : Byte) : (e.takeByte byte).err = e.err := rfl
@[simp] theorem Engine.takeByte_errcode (byte : Byte) : (e.takeByte byte).errcode = e.errcode := rfl

/-! ### `finishL2` -/
@[simp] theorem Engine.finishL2_acc (config : Config) : (e.finishL2 config).acc = e.acc := rfl
@[simp] theorem Engine.finishL2_a (config : Config) : (e.finishL2 config).a = (e.finalWords config).a := rfl
@[simp] theorem Engine.finishL2_b (config : Config) : (e.finishL2 config).b = (e.finalWords config).b := rfl
@[simp] theorem Engine.finishL2_c (config : Config) : (e.finishL2 config).c = (e.finalWords config).c := rfl
@[simp] theorem Engine.finishL2_buf (config : Config) : (e.finishL2 config).buf = e.buf := rfl
@[simp] theorem Engine.finishL2_bufcnt (config : Config) : (e.finishL2 config).bufcnt = 0 := rfl
@[simp] theorem Engine.finishL2_mode (config : Config) : (e.finishL2 config).mode = .idle := rfl
@[simp] theorem Engine.finishL2_len (config : Config) : (e.finishL2 config).len = e.len := rfl
@[simp] theorem Engine.finishL2_seed (config : Config) : (e.finishL2 config).seed = e.seed := rfl
@[simp] theorem Engine.finishL2_result (config : Config) :
    (e.finishL2 config).result = (e.finalWords config).c := rfl
@[simp] theorem Engine.finishL2_done (config : Config) : (e.finishL2 config).done = true := rfl
@[simp] theorem Engine.finishL2_err (config : Config) : (e.finishL2 config).err = e.err := rfl
@[simp] theorem Engine.finishL2_errcode (config : Config) : (e.finishL2 config).errcode = e.errcode := rfl

/-! ### `setSeed` -/
@[simp] theorem Engine.setSeed_acc (v : Word) : (e.setSeed v).acc = e.acc := rfl
@[simp] theorem Engine.setSeed_a (v : Word) : (e.setSeed v).a = e.a := rfl
@[simp] theorem Engine.setSeed_b (v : Word) : (e.setSeed v).b = e.b := rfl
@[simp] theorem Engine.setSeed_c (v : Word) : (e.setSeed v).c = e.c := rfl
@[simp] theorem Engine.setSeed_buf (v : Word) : (e.setSeed v).buf = e.buf := rfl
@[simp] theorem Engine.setSeed_bufcnt (v : Word) : (e.setSeed v).bufcnt = e.bufcnt := rfl
@[simp] theorem Engine.setSeed_mode (v : Word) : (e.setSeed v).mode = e.mode := rfl
@[simp] theorem Engine.setSeed_len (v : Word) : (e.setSeed v).len = e.len := rfl
@[simp] theorem Engine.setSeed_seed (v : Word) : (e.setSeed v).seed = v := rfl
@[simp] theorem Engine.setSeed_result (v : Word) : (e.setSeed v).result = e.result := rfl
@[simp] theorem Engine.setSeed_done (v : Word) : (e.setSeed v).done = e.done := rfl
@[simp] theorem Engine.setSeed_err (v : Word) : (e.setSeed v).err = e.err := rfl
@[simp] theorem Engine.setSeed_errcode (v : Word) : (e.setSeed v).errcode = e.errcode := rfl

/-! ### `setA` -/
@[simp] theorem Engine.setA_acc (v : Word) : (e.setA v).acc = e.acc := rfl
@[simp] theorem Engine.setA_a (v : Word) : (e.setA v).a = v := rfl
@[simp] theorem Engine.setA_b (v : Word) : (e.setA v).b = e.b := rfl
@[simp] theorem Engine.setA_c (v : Word) : (e.setA v).c = e.c := rfl
@[simp] theorem Engine.setA_buf (v : Word) : (e.setA v).buf = e.buf := rfl
@[simp] theorem Engine.setA_bufcnt (v : Word) : (e.setA v).bufcnt = e.bufcnt := rfl
@[simp] theorem Engine.setA_mode (v : Word) : (e.setA v).mode = e.mode := rfl
@[simp] theorem Engine.setA_len (v : Word) : (e.setA v).len = e.len := rfl
@[simp] theorem Engine.setA_seed (v : Word) : (e.setA v).seed = e.seed := rfl
@[simp] theorem Engine.setA_result (v : Word) : (e.setA v).result = e.result := rfl
@[simp] theorem Engine.setA_done (v : Word) : (e.setA v).done = e.done := rfl
@[simp] theorem Engine.setA_err (v : Word) : (e.setA v).err = e.err := rfl
@[simp] theorem Engine.setA_errcode (v : Word) : (e.setA v).errcode = e.errcode := rfl

/-! ### `setB` -/
@[simp] theorem Engine.setB_acc (v : Word) : (e.setB v).acc = e.acc := rfl
@[simp] theorem Engine.setB_a (v : Word) : (e.setB v).a = e.a := rfl
@[simp] theorem Engine.setB_b (v : Word) : (e.setB v).b = v := rfl
@[simp] theorem Engine.setB_c (v : Word) : (e.setB v).c = e.c := rfl
@[simp] theorem Engine.setB_buf (v : Word) : (e.setB v).buf = e.buf := rfl
@[simp] theorem Engine.setB_bufcnt (v : Word) : (e.setB v).bufcnt = e.bufcnt := rfl
@[simp] theorem Engine.setB_mode (v : Word) : (e.setB v).mode = e.mode := rfl
@[simp] theorem Engine.setB_len (v : Word) : (e.setB v).len = e.len := rfl
@[simp] theorem Engine.setB_seed (v : Word) : (e.setB v).seed = e.seed := rfl
@[simp] theorem Engine.setB_result (v : Word) : (e.setB v).result = e.result := rfl
@[simp] theorem Engine.setB_done (v : Word) : (e.setB v).done = e.done := rfl
@[simp] theorem Engine.setB_err (v : Word) : (e.setB v).err = e.err := rfl
@[simp] theorem Engine.setB_errcode (v : Word) : (e.setB v).errcode = e.errcode := rfl

/-! ### `setC` -/
@[simp] theorem Engine.setC_acc (v : Word) : (e.setC v).acc = e.acc := rfl
@[simp] theorem Engine.setC_a (v : Word) : (e.setC v).a = e.a := rfl
@[simp] theorem Engine.setC_b (v : Word) : (e.setC v).b = e.b := rfl
@[simp] theorem Engine.setC_c (v : Word) : (e.setC v).c = v := rfl
@[simp] theorem Engine.setC_buf (v : Word) : (e.setC v).buf = e.buf := rfl
@[simp] theorem Engine.setC_bufcnt (v : Word) : (e.setC v).bufcnt = e.bufcnt := rfl
@[simp] theorem Engine.setC_mode (v : Word) : (e.setC v).mode = e.mode := rfl
@[simp] theorem Engine.setC_len (v : Word) : (e.setC v).len = e.len := rfl
@[simp] theorem Engine.setC_seed (v : Word) : (e.setC v).seed = e.seed := rfl
@[simp] theorem Engine.setC_result (v : Word) : (e.setC v).result = e.result := rfl
@[simp] theorem Engine.setC_done (v : Word) : (e.setC v).done = e.done := rfl
@[simp] theorem Engine.setC_err (v : Word) : (e.setC v).err = e.err := rfl
@[simp] theorem Engine.setC_errcode (v : Word) : (e.setC v).errcode = e.errcode := rfl

/-! ### `recordError` -/
@[simp] theorem Engine.recordError_acc (code : ErrCode) : (e.recordError code).acc = e.acc := by
  unfold Engine.recordError; split <;> rfl
@[simp] theorem Engine.recordError_a (code : ErrCode) : (e.recordError code).a = e.a := by
  unfold Engine.recordError; split <;> rfl
@[simp] theorem Engine.recordError_b (code : ErrCode) : (e.recordError code).b = e.b := by
  unfold Engine.recordError; split <;> rfl
@[simp] theorem Engine.recordError_c (code : ErrCode) : (e.recordError code).c = e.c := by
  unfold Engine.recordError; split <;> rfl
@[simp] theorem Engine.recordError_buf (code : ErrCode) : (e.recordError code).buf = e.buf := by
  unfold Engine.recordError; split <;> rfl
@[simp] theorem Engine.recordError_bufcnt (code : ErrCode) : (e.recordError code).bufcnt = e.bufcnt := by
  unfold Engine.recordError; split <;> rfl
@[simp] theorem Engine.recordError_mode (code : ErrCode) : (e.recordError code).mode = e.mode := by
  unfold Engine.recordError; split <;> rfl
@[simp] theorem Engine.recordError_len (code : ErrCode) : (e.recordError code).len = e.len := by
  unfold Engine.recordError; split <;> rfl
@[simp] theorem Engine.recordError_seed (code : ErrCode) : (e.recordError code).seed = e.seed := by
  unfold Engine.recordError; split <;> rfl
@[simp] theorem Engine.recordError_result (code : ErrCode) : (e.recordError code).result = e.result := by
  unfold Engine.recordError; split <;> rfl
@[simp] theorem Engine.recordError_done (code : ErrCode) : (e.recordError code).done = e.done := by
  unfold Engine.recordError; split <;> rfl

@[simp] theorem Engine.recordError_err (code : ErrCode) : (e.recordError code).err = true := by
  unfold Engine.recordError; split <;> simp_all

/-- The code of the first error since the last clear is the one kept (60_exceptions.md R116). -/
theorem Engine.recordError_errcode (code : ErrCode) :
    (e.recordError code).errcode = if e.err = true then e.errcode else code := by
  unfold Engine.recordError; split <;> rfl

end EngineUpdates

end Sys2Proof.Machine
end

