-- ==== Sys2Proof/Laws/Ops.lean ====
section
/-!
SUPPORT. For each shared operation, once, everything it can do. What every command and every access does to the engine
is given as a function of the engine alone (`afterCommand`, `afterAccess`), which later proofs reason about instead of
unfolding the dispatch.
-/

namespace Sys2Proof.Machine

theorem raiseError_eq (code : ErrCode) (s : State) :
    raiseError code s = .next (s.withEngine (s.engine.recordError code)) := rfl

theorem clearErrorState_eq (s : State) : clearErrorState s = .next (s.withEngine s.engine.clearError) := rfl

theorem runEffect_eq (effect : Engine → Engine) (s : State) :
    runEffect effect s = .next (s.withEngine (effect s.engine)) := rfl

/-- A command of one mode has its effect in that mode and records `BAD_SEQUENCE` in the others. -/
theorem runInMode_eq (m : Mode) (effect : Engine → Engine) (s : State) :
    runInMode m effect s =
      .next (s.withEngine (if s.engine.mode = m then effect s.engine else s.engine.recordError .badSequence)) := by
  unfold runInMode; split <;> rfl

/-- A locked write has its effect in `IDLE` and records `REG_LOCKED` in the other modes. -/
theorem writeInIdle_eq (effect : Engine → Engine) (s : State) :
    writeInIdle effect s =
      .next (s.withEngine (if s.engine.mode = .idle then effect s.engine else s.engine.recordError .regLocked)) := by
  unfold writeInIdle; split <;> rfl

/-- Every reset leaves the engine's reset state, the same configuration and the same events to come. -/
theorem resetEngine_spec (overlapping : Option BusAccess) (s : State) :
    ∃ r k, resetEngine overlapping s =
      .next { s with engine := Engine.reset, needsReset := false, response := r, freeCount := k } := by
  cases overlapping
  · exact ⟨_, _, rfl⟩
  · exact ⟨_, _, rfl⟩

theorem losePower_spec (s : State) :
    ∃ e k, losePower s = .next { s with engine := e, needsReset := true, response := none, freeCount := k } :=
  ⟨_, _, rfl⟩

/-- What a command does to the engine: its effect where the mode accepts it, `BAD_SEQUENCE` where not. -/
def afterCommand (config : Config) (i : Instr) (e : Engine) : Engine :=
  match i with
  | .nop => e
  | .oaatStart => e.startOaat
  | .oaatByte byte => if e.mode = .oaat then e.absorbOaat byte else e.recordError .badSequence
  | .oaatFinish => if e.mode = .oaat then e.finishOaat else e.recordError .badSequence
  | .l2Start seeded => e.startL2 seeded
  | .l2Byte byte => if e.mode = .l2 then e.absorbL2 config byte else e.recordError .badSequence
  | .l2Finish => if e.mode = .l2 then e.finishL2 config else e.recordError .badSequence
  | .mix => if e.mode = .idle then e.mixRegisters config else e.recordError .badSequence
  | .clrErr => e.clearError

/-! ### The fields an accepted `L2_BYTE` leaves alone, and `LEN` -/

@[simp] theorem Engine.absorbL2_result (config : Config) (byte : Byte) (e : Engine) :
    (e.absorbL2 config byte).result = e.result := by
  unfold Engine.absorbL2; dsimp only; split <;> simp

@[simp] theorem Engine.absorbL2_mode (config : Config) (byte : Byte) (e : Engine) :
    (e.absorbL2 config byte).mode = e.mode := by
  unfold Engine.absorbL2; dsimp only; split <;> simp

@[simp] theorem Engine.absorbL2_err (config : Config) (byte : Byte) (e : Engine) :
    (e.absorbL2 config byte).err = e.err := by
  unfold Engine.absorbL2; dsimp only; split <;> simp

@[simp] theorem Engine.absorbL2_errcode (config : Config) (byte : Byte) (e : Engine) :
    (e.absorbL2 config byte).errcode = e.errcode := by
  unfold Engine.absorbL2; dsimp only; split <;> simp

@[simp] theorem Engine.absorbL2_acc (config : Config) (byte : Byte) (e : Engine) :
    (e.absorbL2 config byte).acc = e.acc := by
  unfold Engine.absorbL2; dsimp only; split <;> simp

@[simp] theorem Engine.absorbL2_done (config : Config) (byte : Byte) (e : Engine) :
    (e.absorbL2 config byte).done = e.done := by
  unfold Engine.absorbL2; dsimp only; split <;> simp

@[simp] theorem Engine.absorbL2_seed (config : Config) (byte : Byte) (e : Engine) :
    (e.absorbL2 config byte).seed = e.seed := by
  unfold Engine.absorbL2; dsimp only; split <;> simp

@[simp] theorem Engine.absorbL2_len (config : Config) (byte : Byte) (e : Engine) :
    (e.absorbL2 config byte).len = e.len + 1 := by
  unfold Engine.absorbL2; dsimp only; split <;> simp

/-- Every command completes, and changes nothing but the engine (70_reset_and_hazards.md R140). -/
theorem exec_eq (i : Instr) (s : State) :
    exec i s = .next (s.withEngine (afterCommand s.config i s.engine)) := by
  cases i <;>
    first
    | rfl
    | exact runInMode_eq _ _ _

/-- What a command word does to the engine (43_control.md R107). -/
def afterWord (config : Config) (v : Word) (e : Engine) : Engine :=
  match decode v with
  | .legal i => afterCommand config i e
  | .illegal _ => e.recordError .illegalCmd

theorem execute_eq (v : Word) (s : State) :
    execute v s = .next (s.withEngine (afterWord s.config v s.engine)) := by
  unfold execute afterWord
  cases decode v with
  | legal i => exact exec_eq i s
  | illegal why => rfl

/-- A named register stands at its own offset and at no other (20_memory.md R38). -/
theorem regAt_eq_some (off : Offset) (name : RegName) (h : regAt off = some name) : off = regOffset name := by
  revert h; revert name; revert off; decide

/-- What an aligned 32-bit write does to the engine (20_memory.md R41 to R44). -/
def afterWrite (config : Config) (off : Offset) (v : Word) (e : Engine) : Engine :=
  match regAt off with
  | some .cmd => afterWord config v e
  | some .seed => e.setSeed v
  | some .a => if e.mode = .idle then e.setA v else e.recordError .regLocked
  | some .b => if e.mode = .idle then e.setB v else e.recordError .regLocked
  | some .c => if e.mode = .idle then e.setC v else e.recordError .regLocked
  | _ => e

theorem regWrite_eq (off : Offset) (v : Word) (s : State) :
    regWrite off v s = .next (s.withEngine (afterWrite s.config off v s.engine)) := by
  unfold regWrite afterWrite
  cases regAt off with
  | none => rfl
  | some name =>
    cases name <;>
      first
      | rfl
      | exact execute_eq v s
      | exact writeInIdle_eq _ s

/-- What an allowed access does to the engine: a read does nothing (20_memory.md R40). -/
def afterAccess (config : Config) (a : BusAccess) (e : Engine) : Engine :=
  match a with
  | .read _ _ => e
  | .write _ off v => afterWrite config off v e

/-- What the bus answers to an allowed access: a read sees the engine before it. -/
def answerTo (config : Config) (a : BusAccess) (e : Engine) : BusResponse :=
  match a with
  | .read _ off => .readData (regRead config e off)
  | .write _ _ _ => .writeDone

theorem accessFault_none_iff (width : AccessWidth) (off : Offset) :
    accessFault width off = none ↔ accessWf width off = true := by
  unfold accessFault accessWf
  split <;> simp_all

/-- Once the engine is reset, an access is a bus error, or it completes. -/
theorem performAccess_powered (a : BusAccess) (s : State) (hr : s.needsReset = false) :
    performAccess a s =
      match a with
      | .read width off =>
        match accessFault width off with
        | some r => .fault r
        | none => .next (s.withResponse (some (.readData (regRead s.config s.engine off))))
      | .write width off v =>
        match accessFault width off with
        | some r => .fault r
        | none => completeWrite (regWrite off v s) := by
  cases a <;> exact if_neg (by simp [hr])

/-- An allowed access completes; it changes the engine and the bus answer and nothing else. -/
theorem performAccess_eq (a : BusAccess) (s : State) (hr : s.needsReset = false) (hw : a.wf = true) :
    performAccess a s =
      .next ((s.withEngine (afterAccess s.config a s.engine)).withResponse
        (some (answerTo s.config a s.engine))) := by
  rw [performAccess_powered a s hr]
  cases a with
  | read width off => simp only [(accessFault_none_iff width off).2 hw]; rfl
  | write width off v => simp only [(accessFault_none_iff width off).2 hw, regWrite_eq]; rfl

/-- An access that is not allowed has no successor state (20_memory.md R37). -/
theorem performAccess_fault (a : BusAccess) (s : State) (hr : s.needsReset = false) (hw : a.wf = false) :
    ∃ r, performAccess a s = .fault r := by
  rw [performAccess_powered a s hr]
  cases a with
  | read width off =>
    cases h : accessFault width off with
    | none => simp_all [BusAccess.wf, accessFault_none_iff]
    | some r => exact ⟨r, by simp only [h]⟩
  | write width off v =>
    cases h : accessFault width off with
    | none => simp_all [BusAccess.wf, accessFault_none_iff]
    | some r => exact ⟨r, by simp only [h]⟩

/-- Before reset no access has a meaning (70_reset_and_hazards.md R136). -/
theorem performAccess_beforeReset (a : BusAccess) (s : State) (hr : s.needsReset = true) :
    performAccess a s = .refused .beforeReset := by
  simp [performAccess, hr]

end Sys2Proof.Machine
end

