-- ==== Sys2Proof/Laws/PerInstr.lean ====
section
/-!
SUPPORT. Facts about every command as syntax, one lemma per constructor of `Instr`.
-/

namespace Sys2Proof.Laws

/-- The word of a command matches its own row of the opcode map, carries its `OPC` in bits 31:24, and the command is
well formed (30_encoding.md R58, R61). -/
def EncodingMatchesRow.Statement (i : Instr) : Prop :=
  encode i &&& tableMask i = tableMatch i ∧ opcField (encode i) = opcodeOf i ∧ i.wf = true

theorem EncodingMatchesRow.nop : EncodingMatchesRow.Statement .nop := by
  unfold EncodingMatchesRow.Statement; decide

theorem EncodingMatchesRow.oaatStart : EncodingMatchesRow.Statement .oaatStart := by
  unfold EncodingMatchesRow.Statement; decide

theorem EncodingMatchesRow.oaatByte (byte : Byte) : EncodingMatchesRow.Statement (.oaatByte byte) := by
  unfold EncodingMatchesRow.Statement; revert byte; decide

theorem EncodingMatchesRow.oaatFinish : EncodingMatchesRow.Statement .oaatFinish := by
  unfold EncodingMatchesRow.Statement; decide

theorem EncodingMatchesRow.l2Start (seeded : Bool) : EncodingMatchesRow.Statement (.l2Start seeded) := by
  unfold EncodingMatchesRow.Statement; revert seeded; decide

theorem EncodingMatchesRow.l2Byte (byte : Byte) : EncodingMatchesRow.Statement (.l2Byte byte) := by
  unfold EncodingMatchesRow.Statement; revert byte; decide

theorem EncodingMatchesRow.l2Finish : EncodingMatchesRow.Statement .l2Finish := by
  unfold EncodingMatchesRow.Statement; decide

theorem EncodingMatchesRow.mix : EncodingMatchesRow.Statement .mix := by
  unfold EncodingMatchesRow.Statement; decide

theorem EncodingMatchesRow.clrErr : EncodingMatchesRow.Statement .clrErr := by
  unfold EncodingMatchesRow.Statement; decide

end Sys2Proof.Laws
end

