-- ==== Sys2Proof/Laws/Step.lean ====
section
/-!
SUPPORT. What one step can do, and what a run over a stream of allowed accesses does.
-/

namespace Sys2Proof.Machine

theorem step_nil (s : State) (h : s.pending = []) : step s = .next s := by
  simp [step, performNext, h]

theorem step_cons (s : State) (event : BusEvent) (rest : List BusEvent) (h : s.pending = event :: rest) :
    step s = performEvent event (s.withPending rest) := by
  simp [step, performNext, h]

/-- A step over an allowed access. -/
theorem step_access (s : State) (a : BusAccess) (rest : List BusEvent) (hr : s.needsReset = false)
    (hp : s.pending = .access a :: rest) (hw : a.wf = true) :
    step s =
      .next { s with
        engine := afterAccess s.config a s.engine
        pending := rest
        response := some (answerTo s.config a s.engine) } := by
  rw [step_cons s _ _ hp]
  exact performAccess_eq a (s.withPending rest) hr hw

/-- Recording an error, as the statements write it. -/
theorem withEngine_recordError (code : ErrCode) (s : State) :
    s.withEngine (s.engine.recordError code) = errorRecorded code s := by
  unfold errorRecorded Engine.recordError; split <;> rfl

/-- A command of another mode records `BAD_SEQUENCE` (60_exceptions.md R117). -/
theorem runInMode_rejected (m : Mode) (effect : Engine → Engine) (s : State) (h : s.engine.mode ≠ m) :
    runInMode m effect s = .next (errorRecorded .badSequence s) := by
  rw [runInMode_eq, if_neg h, withEngine_recordError]

/-- A command of the current mode has its effect (43_control.md R110). -/
theorem runInMode_accepted (m : Mode) (effect : Engine → Engine) (s : State) (h : s.engine.mode = m) :
    runInMode m effect s = .next (s.withEngine (effect s.engine)) := by
  rw [runInMode_eq, if_pos h]

/-- An allowed access, once the engine is reset: its effect on the engine, and the bus answer. -/
theorem performEvent_access (s : State) (a : BusAccess) (hr : s.needsReset = false) (hw : a.wf = true) :
    performEvent (.access a) s =
      .next { s with
        engine := afterAccess s.config a s.engine
        response := some (answerTo s.config a s.engine) } :=
  performAccess_eq a s hr hw

/-- Everything an event that answers a next state can have done. -/
theorem performEvent_next_cases (event : BusEvent) (s t : State) (h : performEvent event s = .next t) :
    (∃ a, event = .access a ∧ s.needsReset = false ∧ a.wf = true ∧
      t = { s with
        engine := afterAccess s.config a s.engine
        response := some (answerTo s.config a s.engine) }) ∨
    (∃ overlapping r k, event = .reset overlapping ∧
      t = { s with engine := Engine.reset, needsReset := false, response := r, freeCount := k }) ∨
    (∃ e k, event = .powerLoss ∧
      t = { s with engine := e, needsReset := true, response := none, freeCount := k }) := by
  cases event with
  | access a =>
    rcases hr : s.needsReset with _ | _
    · rcases hw : a.wf with _ | _
      · obtain ⟨r, hf⟩ := performAccess_fault a s hr hw
        rw [performEvent, hf] at h
        exact absurd h (by simp)
      · rw [performEvent_access s a hr hw] at h
        injection h with h
        exact .inl ⟨a, rfl, rfl, hw, by rw [← h]; simp [hr]⟩
    · rw [performEvent, performAccess_beforeReset a s hr] at h
      exact absurd h (by simp)
  | reset o =>
    obtain ⟨r, k, hres⟩ := resetEngine_spec o s
    rw [performEvent, hres] at h
    injection h with h
    exact .inr (.inl ⟨o, r, k, rfl, h.symm⟩)
  | powerLoss =>
    obtain ⟨e, k, hres⟩ := losePower_spec s
    rw [performEvent, hres] at h
    injection h with h
    exact .inr (.inr ⟨e, k, rfl, h.symm⟩)

/-- A stream whose first event answers a next state goes on from there. -/
theorem performAll_cons (event : BusEvent) (rest : List BusEvent) (s t : State) (h : performEvent event s = .next t) :
    performAll (event :: rest) s = performAll rest t := by
  rw [performAll, h]

/-- A stream that begins with an allowed access. -/
theorem performAll_access (s : State) (a : BusAccess) (rest : List BusEvent) (hr : s.needsReset = false)
    (hw : a.wf = true) :
    performAll (.access a :: rest) s =
      performAll rest { s with
        engine := afterAccess s.config a s.engine
        response := some (answerTo s.config a s.engine) } :=
  performAll_cons _ rest s _ (performEvent_access s a hr hw)

/-- Two streams, one after the other. -/
theorem performAll_append (first second : List BusEvent) (s t : State) (h : performAll first s = .next t) :
    performAll (first ++ second) s = performAll second t := by
  induction first generalizing s with
  | nil =>
    injection h with h
    rw [List.nil_append, h]
  | cons event rest ih =>
    rw [performAll] at h
    cases he : performEvent event s with
    | next u =>
      rw [he] at h
      rw [List.cons_append, performAll_cons event _ s u he]
      exact ih u h
    | fault r => rw [he] at h; exact absurd h (by simp)
    | refused r => rw [he] at h; exact absurd h (by simp)

/-- Everything a step that answers a next state can have done: nothing, with no event to come; an allowed access; a
reset; a loss of power. -/
theorem step_next_cases (s t : State) (h : step s = .next t) :
    (s.pending = [] ∧ t = s) ∨
    (∃ a rest, s.pending = .access a :: rest ∧ s.needsReset = false ∧ a.wf = true ∧
      t = { s with
        engine := afterAccess s.config a s.engine
        pending := rest
        response := some (answerTo s.config a s.engine) }) ∨
    (∃ overlapping rest r k, s.pending = .reset overlapping :: rest ∧
      t = { s with engine := Engine.reset, pending := rest, needsReset := false, response := r, freeCount := k }) ∨
    (∃ rest e k, s.pending = .powerLoss :: rest ∧
      t = { s with engine := e, pending := rest, needsReset := true, response := none, freeCount := k }) := by
  rcases hp : s.pending with _ | ⟨event, rest⟩
  · rw [step_nil s hp] at h
    injection h with h
    exact .inl ⟨rfl, h.symm⟩
  · rw [step_cons s _ _ hp] at h
    obtain ⟨a, rfl, hr, hw, ht⟩ | ⟨o, r, k, rfl, ht⟩ | ⟨e, k, rfl, ht⟩ :=
      performEvent_next_cases event (s.withPending rest) t h
    · exact .inr (.inl ⟨a, rest, rfl, hr, hw, ht⟩)
    · exact .inr (.inr (.inl ⟨o, rest, r, k, rfl, ht⟩))
    · exact .inr (.inr (.inr ⟨rest, e, k, rfl, ht⟩))

/-- A run whose first step answers a next state goes on from there. -/
theorem runSteps_succ (n : Nat) (s t : State) (h : step s = .next t) : runSteps (n + 1) s = runSteps n t := by
  rw [runSteps, h]

/-- A run of `m + n` steps is a run of `m` and then one of `n`. -/
theorem runSteps_add (m n : Nat) (s t : State) (h : runSteps m s = .next t) : runSteps (m + n) s = runSteps n t := by
  induction m generalizing s with
  | zero =>
    injection h with h
    rw [h, Nat.zero_add]
  | succ m ih =>
    rw [runSteps] at h
    cases hs : step s with
    | next u =>
      rw [hs] at h
      rw [Nat.succ_add, runSteps_succ _ _ _ hs]
      exact ih u h
    | fault r => rw [hs] at h; exact absurd h (by simp)
    | refused r => rw [hs] at h; exact absurd h (by simp)

/-- `runSteps` is the host's run of the machine. -/
theorem runSteps_eq_core_run (n : Nat) (s : State) : runSteps n s = Host.Core.run Sys2Proof.core n s := by
  induction n generalizing s with
  | zero => rfl
  | succ n ih =>
    have hs : Sys2Proof.core.step s = step s := rfl
    simp only [runSteps, Host.Core.run, hs]
    cases step s with
    | next t => exact ih t
    | fault r => rfl
    | refused r => rfl

/-- A run over a stream of allowed accesses folds their effects into the engine, in order, and leaves the rest of the
stream. -/
theorem runSteps_accesses (accesses : List BusAccess) (s : State) (rest : List BusEvent) (hr : s.needsReset = false)
    (hp : s.pending = accesses.map .access ++ rest) (hw : ∀ a ∈ accesses, a.wf = true) :
    ∃ r, runSteps accesses.length s =
      .next { s with
        engine := accesses.foldl (fun e a => afterAccess s.config a e) s.engine
        pending := rest
        response := r } := by
  induction accesses generalizing s with
  | nil => exact ⟨s.response, by cases s; simp_all [runSteps]⟩
  | cons a accesses ih =>
    have hstep := step_access s a (accesses.map .access ++ rest) hr (by simpa using hp) (hw a (by simp))
    obtain ⟨r, hrun⟩ := ih { s with
        engine := afterAccess s.config a s.engine
        pending := accesses.map .access ++ rest
        response := some (answerTo s.config a s.engine) } hr rfl (fun b hb => hw b (by simp [hb]))
    exact ⟨r, (runSteps_succ _ _ _ hstep).trans hrun⟩

end Sys2Proof.Machine
end

