-- ==== Sys2Proof/Tests/Slice0.lean ====
section
/-!
SUPPORT. Tests: each check of WellFormed.lean refuses an ill-formed term; words written out bit by bit decode to their
commands; the vectors of 95_test_vectors.md; one step of each command; and, for every statement of the obligations with
hypotheses, states and operands that meet them.
-/

namespace Sys2Proof.Machine.Tests

/-! ### Small states -/

/-- The state after reset in an `OAAT` session that has taken no byte. -/
def oaatState : State := State.reset.withEngine { Engine.reset with mode := .oaat }

/-- The state after reset in an `L2` session that has taken `n` zero bytes. -/
def l2State (n : Fin 12) : State :=
  State.reset.withEngine
    { Engine.reset with mode := .l2, bufcnt := n, len := BitVec.ofNat 32 n.val, a := golden, b := golden }

/-- The state after reset with `BAD_SEQUENCE` recorded. -/
def errorState : State := State.reset.withEngine { Engine.reset with err := true, errcode := .badSequence }

/-- A host access that writes `v` at `off`. -/
def write (off : Offset) (v : Word) : BusEvent := .access (.write .w32 off v)

/-- A host access that reads at `off`. -/
def read (off : Offset) : BusEvent := .access (.read .w32 off)

/-- What one step over one event leaves in a piece of the state, where it answers a next state. -/
def after {α : Type} (s : State) (event : BusEvent) (get : State → α) : Option α :=
  match step (s.withPending [event]) with
  | .next t => some (get t)
  | .fault _ => none
  | .refused _ => none

/-- `STATUS` as the host reads it. -/
def status (s : State) : Word := regRead s.config s.engine 0x08

/-! ### WellFormed: each check refuses an ill-formed term -/

theorem test_wf_refuses_byte_access : accessWf .w8 0x04 = false := by decide
theorem test_wf_refuses_halfword_access : (BusAccess.read .w16 0x08).wf = false := by decide
theorem test_wf_refuses_doubleword_access : (BusAccess.write .w64 0x0C 0).wf = false := by decide
theorem test_wf_refuses_misaligned_access : (BusAccess.read .w32 0x0A).wf = false := by decide
theorem test_wf_refuses_imm8_above : (AsmLine.oaatByte 256).wf = false := by decide
theorem test_wf_refuses_imm8_below : (AsmLine.l2Byte (-129)).wf = false := by decide
theorem test_wf_refuses_imm32_above : (AsmLine.wr .seed 4294967296).wf = false := by decide
theorem test_wf_refuses_imm32_below : (AsmLine.word (-1)).wf = false := by decide
theorem test_wf_refuses_seed_select : (AsmLine.l2Start (some 2)).wf = false := by decide
theorem test_wf_refuses_seed_of_string : (AsmLine.l2Str ['a'] (some (-1))).wf = false := by decide
theorem test_wf_refuses_byte_lists :
    (AsmLine.oaatBytes [0, 256]).wf = false ∧ (AsmLine.l2Bytes [-129]).wf = false := by decide
theorem test_wf_refuses_mix3 : (AsmLine.mix3 0 0 4294967296).wf = false := by decide
theorem test_wf_accepts_bounds :
    (AsmLine.oaatByte (-128)).wf = true ∧ (AsmLine.oaatByte 255).wf = true ∧
      (AsmLine.wr .a 4294967295).wf = true ∧ accessWf .w32 0x3C = true := by decide

/-! ### Decoding: words written out from the formats of 30_encoding.md R57 -/

theorem test_decode_nop : decode 0b00000000_000000000000000000000000#32 = .legal .nop := by decide
theorem test_decode_oaatStart : decode 0b00000001_000000000000000000000000#32 = .legal .oaatStart := by decide
theorem test_decode_oaatByte : decode 0b00000010_0000000000000000_10000001#32 = .legal (.oaatByte 0x81) := by decide
theorem test_decode_oaatFinish : decode 0b00000011_000000000000000000000000#32 = .legal .oaatFinish := by decide
theorem test_decode_l2Start_unseeded :
    decode 0b00010001_00000000000000000000000_0#32 = .legal (.l2Start false) := by decide
theorem test_decode_l2Start_seeded :
    decode 0b00010001_00000000000000000000000_1#32 = .legal (.l2Start true) := by decide
theorem test_decode_l2Byte : decode 0b00010010_0000000000000000_01111110#32 = .legal (.l2Byte 0x7E) := by decide
theorem test_decode_l2Finish : decode 0b00010011_000000000000000000000000#32 = .legal .l2Finish := by decide
theorem test_decode_mix : decode 0b00100000_000000000000000000000000#32 = .legal .mix := by decide
theorem test_decode_clrErr : decode 0b00110000_000000000000000000000000#32 = .legal .clrErr := by decide

/-- 95_test_vectors.md 5.1: the illegal words. -/
theorem test_decode_illegal_words :
    decode 0x00000001 = .illegal .reservedBitSet ∧ decode 0x02000100 = .illegal .reservedBitSet ∧
      decode 0x11000002 = .illegal .reservedBitSet ∧ decode 0x04000000 = .illegal .unassignedOpcode ∧
      decode 0xFF000000 = .illegal .unassignedOpcode ∧ decode 0xFFFFFFFF = .illegal .unassignedOpcode := by decide

/-- The highest reserved bit of each format. -/
theorem test_decode_high_reserved_bits :
    decode 0x30800000 = .illegal .reservedBitSet ∧ decode 0x12800000 = .illegal .reservedBitSet ∧
      decode 0x11800000 = .illegal .reservedBitSet := by decide

theorem test_decodeTableWord :
    decodeTableWord 32 0x12000041 = some (.l2Byte 0x41) ∧ decodeTableWord 32 0x04000000 = none := by decide

/-- The words 95_test_vectors.md P1 and P2 give beside the mnemonics. -/
theorem test_encode :
    encode (.oaatByte 0x6D) = 0x0200006D ∧ encode (.l2Start true) = 0x11000001 ∧
      encode (.l2Byte 0x21) = 0x12000021 ∧ encode .l2Finish = 0x13000000 := by decide

/-! ### Arithmetic: 95_test_vectors.md sections 2 to 4 -/

theorem test_mix_right :
    mixWords ⟨.corrected, .right⟩ ⟨1, 2, 3⟩ = ⟨0x1F72724F, 0xE58BDAFD, 0xF8138107⟩ := by decide
theorem test_mix_left :
    mixWords ⟨.corrected, .left⟩ ⟨1, 2, 3⟩ = ⟨0x072C6345, 0x41729D0B, 0xB7B48902⟩ := by decide
/-- 95_test_vectors.md 3.1: a negative byte, and an arithmetic shift of a negative accumulator. -/
theorem test_oaatStep_signed :
    oaatStep 0 0x80 = 0x0002087E ∧ oaatStep 0x80000000 0x00 = 0x7E000000 := by decide
/-- 95_test_vectors.md 3.2: the shift by 11 is arithmetic. -/
theorem test_oaatFinal_signed :
    oaatFinal 0x80000000 = 0x7FF00000 ∧ oaatFinal 0xFFFFFFFF = 0x00040008 := by decide
theorem test_oaatHash_metal_01 : oaatHash [0x6D, 0x65, 0x74, 0x61, 0x6C, 0x5F, 0x30, 0x31] = 0x9A51FBCF := by decide
theorem test_folds :
    foldCorrected 0x80 0x00 0x00 0x81 = 0x81000080 ∧ foldCorrected 1 2 3 4 = 0x04030201 ∧ foldLiteral 1 2 3 4 = 0 := by
  decide
/-- 95_test_vectors.md 4.2: the tail "abcdefghijk". -/
theorem test_tailFold :
    tailFold ⟨0, 0, 0⟩ [0x61, 0x62, 0x63, 0x64, 0x65, 0x66, 0x67, 0x68, 0x69, 0x6A, 0x6B] =
      ⟨0x64636261, 0x68676665, 0x6B6A6900⟩ := by decide
/-- 95_test_vectors.md 4.3: "hello world!!" in two variants. -/
theorem test_lookup2_thirteen_bytes :
    lookup2 ⟨.corrected, .right⟩ [0x68, 0x65, 0x6C, 0x6C, 0x6F, 0x20, 0x77, 0x6F, 0x72, 0x6C, 0x64, 0x21, 0x21]
        0x12345678 = 0x452682DA ∧
      lookup2 ⟨.literal, .left⟩ [0x68, 0x65, 0x6C, 0x6C, 0x6F, 0x20, 0x77, 0x6F, 0x72, 0x6C, 0x64, 0x21, 0x21] 0 =
        0x54233E77 := by decide

/-! ### One step of each command -/

/-- 43_control.md R108. -/
theorem test_step_nop : after oaatState (write 0x04 0x00000000) status = some 0x00000001 := by decide
/-- 41_oaat.md R81; 95_test_vectors.md 5.2: an abandoned lookup2 session keeps its words. -/
theorem test_step_oaatStart :
    after (l2State 1) (write 0x04 0x01000000) (fun t => (status t, t.engine.a, t.engine.len)) =
      some (0x00000001, 0x9E3779B9, 0) := by decide
/-- 41_oaat.md R82. -/
theorem test_step_oaatByte :
    after oaatState (write 0x04 0x02000061) (fun t => (t.engine.acc, t.engine.len)) = some (0x00018270, 1) := by decide
/-- 95_test_vectors.md 5.2. -/
theorem test_step_oaatByte_rejected :
    after State.reset (write 0x04 0x02000041) (fun t => (status t, t.engine.len)) = some (0x00000028, 0) := by decide
/-- 41_oaat.md R84. -/
theorem test_step_oaatFinish :
    after (oaatState.withEngine { oaatState.engine with acc := 0x00018270, len := 1 }) (write 0x04 0x03000000)
        (fun t => (t.engine.result, t.engine.acc, status t)) =
      some (0xCA2E9442, 0xCA2E9442, 0x00000004) := by decide
/-- 42_lookup2.md R93. -/
theorem test_step_l2Start :
    after (State.reset.withEngine { Engine.reset with seed := 0x12345678 }) (write 0x04 0x11000001)
        (fun t => (t.engine.words, status t)) =
      some (⟨0x9E3779B9, 0x9E3779B9, 0x12345678⟩, 0x00000002) := by decide
/-- 42_lookup2.md R95: the twelfth zero byte. -/
theorem test_step_l2Byte_block :
    after (l2State 11) (write 0x04 0x12000000) (fun t => (t.engine.words, t.engine.bufcnt, t.engine.len)) =
      some (⟨0x9B98171A, 0x7C70C38B, 0x0C78019F⟩, 0, 12) := by decide
/-- 95_test_vectors.md P2: after the eleventh byte `STATUS` reads 0x00000B02. -/
theorem test_step_l2Byte_eleventh : after (l2State 10) (write 0x04 0x12000064) status = some 0x00000B02 := by decide
/-- 42_lookup2.md R97: an empty session. -/
theorem test_step_l2Finish :
    after (l2State 0) (write 0x04 0x13000000) (fun t => (t.engine.result, status t)) =
      some (0x0C78019F, 0x00000004) := by decide
/-- 40_mix.md R78. -/
theorem test_step_mix :
    after (State.reset.withEngine { Engine.reset with a := 1, b := 2, c := 3 }) (write 0x04 0x20000000)
        (fun t => t.engine.words) =
      some ⟨0x1F72724F, 0xE58BDAFD, 0xF8138107⟩ := by decide
/-- 95_test_vectors.md 5.2. -/
theorem test_step_mix_rejected : after (l2State 1) (write 0x04 0x20000000) status = some 0x0000012A := by decide
/-- 43_control.md R109. -/
theorem test_step_clrErr :
    after ((l2State 0).withEngine { (l2State 0).engine with err := true, errcode := .illegalCmd })
        (write 0x04 0x30000000) status = some 0x00000002 := by decide
/-- 95_test_vectors.md 5.2. -/
theorem test_step_illegal : after State.reset (write 0x04 0x04000000) status = some 0x00000018 := by decide
/-- 95_test_vectors.md 5.2: the first error is kept. -/
theorem test_step_illegal_second : after errorState (write 0x04 0x02000100) status = some 0x00000028 := by decide
/-- 95_test_vectors.md 5.2. -/
theorem test_step_locked_write :
    after oaatState (write 0x1C 5) (fun t => (status t, t.engine.a)) = some (0x00000039, 0) := by decide
/-- 10_state.md R30. -/
theorem test_step_read_id : after State.reset (read 0x00) (fun t => t.response) = some (some (.readData 0x4F414154)) := by
  decide
/-- 20_memory.md R37: the width is the reason where both are wrong (log 13). -/
theorem test_step_bus_errors :
    step (State.reset.withPending [.access (.write .w8 0x04 0x30)]) = .fault .busErrorWidth ∧
      step (State.reset.withPending [.access (.read .w16 0x05)]) = .fault .busErrorWidth ∧
      step (State.reset.withPending [.access (.read .w32 0x06)]) = .fault .busErrorAlignment := ⟨rfl, rfl, rfl⟩

/-! ### The assembler -/

/-- 30_encoding.md R66, R67, R68. -/
theorem test_assemble_lines :
    assembleText "L2_START 1".toList = some [cmdWrite 0x11000001] ∧
      assembleText "oaat_byte -128".toList = some [cmdWrite 0x02000080] ∧
      assembleText "wr SEED, 0x12".toList = some [.write .w32 0x0C 0x12] ∧
      assembleText "rd LEN -> x".toList = some [.read .w32 0x14] ∧
      assembleText "OAAT_BYTE 256".toList = none := by decide
/-- 30_encoding.md R69. -/
theorem test_assemble_empty_string :
    assemble (.oaatStr []) = some [cmdWrite 0x01000000, cmdWrite 0x03000000] := by decide
/-- 95_test_vectors.md 3.3: the UTF-8 bytes of "é". -/
theorem test_utf8 : textBytes ['é'] = [0xC3, 0xA9] := by decide
/-- 30_encoding.md R70. -/
theorem test_disassemble :
    disassemble 0x020000FF = "OAAT_BYTE 0xFF".toList ∧ disassemble 0x11000000 = "L2_START".toList ∧
      disassemble 0x11000002 = ".word 0x11000002".toList := by decide

/-! ### Witnesses: for each statement with hypotheses, terms that meet them together -/

theorem witness_DecodeAndEncodeAreInverse :
    (Instr.l2Byte 0x80).wf = true ∧ decode 0x12000080 = .legal (.l2Byte 0x80) := by decide

/-- An `OPC` in no row: the ends of the unassigned ranges. -/
theorem witness_IllegalWords_opcode :
    (∀ opc ∈ ([0x04, 0x10, 0x14, 0x1F, 0x21, 0x2F, 0x31, 0xFF] : List (BitVec 8)),
      opc ∉ ([0x00, 0x01, 0x02, 0x03, 0x11, 0x12, 0x13, 0x20, 0x30] : List (BitVec 8))) ∧
      (0x04000000 : Word).extractLsb' 24 8 = 0x04 := by decide
theorem witness_IllegalWords_formatN :
    (0x00000001 : Word).extractLsb' 24 8 ∈ ([0x00, 0x01, 0x03, 0x13, 0x20, 0x30] : List (BitVec 8)) ∧
      (0x00000001 : Word).extractLsb' 0 24 ≠ 0 ∧ (0x30800000 : Word).extractLsb' 0 24 ≠ 0 := by decide
theorem witness_IllegalWords_formatB :
    (0x02000100 : Word).extractLsb' 24 8 ∈ ([0x02, 0x12] : List (BitVec 8)) ∧
      (0x02000100 : Word).extractLsb' 8 16 ≠ 0 ∧ (0x12800000 : Word).extractLsb' 8 16 ≠ 0 := by decide
theorem witness_IllegalWords_formatS :
    (0x11000002 : Word).extractLsb' 24 8 = 0x11 ∧ (0x11000002 : Word).extractLsb' 1 23 ≠ 0 ∧
      (0x11800001 : Word).extractLsb' 1 23 ≠ 0 := by decide

theorem witness_DisassemblyReassembles : decode 0x11000001 = .legal (.l2Start true) := by decide

theorem witness_StepRunsTheDecodedCommand :
    (oaatState.withPending [write 0x04 0x02000061]).needsReset = false ∧
      (oaatState.withPending [write 0x04 0x02000061]).pending = .access (.write .w32 0x04 0x02000061) :: [] ∧
      decode 0x02000061 = .legal (.oaatByte 0x61) := by decide

theorem witness_PlacedCommandIsRunNext : oaatState.needsReset = false := by decide

theorem witness_EngineWaitsForTheHost : oaatState.pending = [] := by decide

theorem witness_StepPerformsTheNextAccess_read :
    (oaatState.withPending [read 0x3C]).needsReset = false ∧ (0x3C : Offset).toNat % 4 = 0 ∧
      (oaatState.withPending [read 0x3C]).pending = .access (.read .w32 0x3C) :: [] := by decide
theorem witness_StepPerformsTheNextAccess_write :
    (oaatState.withPending [write 0x00 7]).needsReset = false ∧ (0x00 : Offset).toNat % 4 = 0 ∧
      (oaatState.withPending [write 0x00 7]).pending = .access (.write .w32 0x00 7) :: [] := by decide

theorem witness_StepsFollowTheStreamInOrder :
    (State.reset.withPending [write 0x04 0x01000000, read 0x08, .powerLoss]).pending =
      [write 0x04 0x01000000, read 0x08] ++ [.powerLoss] := by decide

theorem witness_ReadsReturnTheListedValues : (0x00 : Offset).toNat % 4 = 0 ∧ (0x3C : Offset).toNat % 4 = 0 := by decide

theorem witness_WordWritesNeedIdle_idle : State.reset.engine.mode = .idle := by decide
theorem witness_WordWritesNeedIdle_locked :
    oaatState.engine.mode ≠ .idle ∧ (l2State 11).engine.mode ≠ .idle ∧
      (0x1C : Offset) ∈ ([0x1C, 0x20, 0x24] : List Offset) ∧ (0x24 : Offset) ∈ ([0x1C, 0x20, 0x24] : List Offset) := by
  decide

theorem witness_ReadOnlyAndReservedWritesAreIgnored :
    (0x00 : Offset) ∈ ([0x00, 0x08, 0x10, 0x14, 0x18] : List Offset) ∧
      (0x28 ≤ (0x28 : Offset).toNat ∧ (0x28 : Offset).toNat % 4 = 0) ∧
      (0x28 ≤ (0x3C : Offset).toNat ∧ (0x3C : Offset).toNat % 4 = 0) := by decide

theorem witness_AccessCompletesOrIsABusError_allowed :
    oaatState.needsReset = false ∧ BusAccess.read .w32 0x3C = .read .w32 0x3C ∧
      (AccessWidth.w32 = .w32 ∧ (0x3C : Offset).toNat % 4 = 0) := by decide
theorem witness_AccessCompletesOrIsABusError_refused :
    oaatState.needsReset = false ∧ BusAccess.write .w8 0x04 0 = .write .w8 0x04 0 ∧
      ¬ (AccessWidth.w8 = .w32 ∧ (0x04 : Offset).toNat % 4 = 0) ∧
      ¬ (AccessWidth.w32 = .w32 ∧ (0x3F : Offset).toNat % 4 = 0) := by decide

theorem witness_NoAccessHasAMeaningBeforeReset : ({ State.reset with needsReset := true } : State).needsReset = true := by
  decide

theorem witness_StateAfterResetReadsAsListed :
    (0x04 : Offset) ≠ 0x00 ∧ (0x04 : Offset) ≠ 0x08 ∧ (0x3C : Offset) ≠ 0x00 ∧ (0x3C : Offset) ≠ 0x08 := by decide

theorem witness_OaatByteAbsorbsOneByte :
    (0x020000FF : Word) &&& 0xFFFFFF00 = 0x02000000 ∧ oaatState.engine.mode = .oaat ∧
      State.reset.engine.mode ≠ .oaat ∧ (l2State 0).engine.mode ≠ .oaat := by decide

theorem witness_OaatFinishDeliversTheResult :
    oaatState.engine.mode = .oaat ∧ State.reset.engine.mode ≠ .oaat ∧ (l2State 0).engine.mode ≠ .oaat := by decide

theorem witness_L2StartOpensASession :
    (0x11000000 : Word) &&& 0xFFFFFFFE = 0x11000000 ∧ (0x11000001 : Word) &&& 0xFFFFFFFE = 0x11000000 := by decide

/-- The bounds of the two block clauses: `BUFCNT` 0 and 10, then 11. -/
theorem witness_L2ByteTakesOneByte :
    (0x12000080 : Word) &&& 0xFFFFFF00 = 0x12000000 ∧
      ((l2State 0).engine.mode = .l2 ∧ (l2State 0).engine.bufcnt.val < 11) ∧
      ((l2State 10).engine.mode = .l2 ∧ (l2State 10).engine.bufcnt.val < 11) ∧
      ((l2State 11).engine.mode = .l2 ∧ (l2State 11).engine.bufcnt.val = 11) ∧
      State.reset.engine.mode ≠ .l2 ∧ oaatState.engine.mode ≠ .l2 := by decide

theorem witness_L2FinishDeliversTheResult :
    (l2State 11).engine.mode = .l2 ∧ State.reset.engine.mode ≠ .l2 ∧ oaatState.engine.mode ≠ .l2 := by decide

theorem witness_MixCommandMixesTheWords :
    State.reset.engine.mode = .idle ∧ oaatState.engine.mode ≠ .idle ∧ (l2State 0).engine.mode ≠ .idle := by decide

theorem witness_ModesAcceptCommandsAsTabled :
    accepts oaatState.engine.mode .l2Finish = false ∧ accepts oaatState.engine.mode (.oaatByte 0) = true ∧
      decode 0x02000100 = .illegal .reservedBitSet := by decide

theorem witness_FirstErrorIsKept : State.reset.engine.err = false ∧ errorState.engine.err = true := by decide

theorem witness_CorrectedFoldIsLittleEndian : (⟨.corrected, .left⟩ : Config).l2FoldMode = .corrected := by decide

theorem witness_LiteralFoldIsZero : (⟨.literal, .left⟩ : Config).l2FoldMode = .literal := by decide

theorem witness_TailFoldPlacesEachByte :
    ([] : List Byte).length ≤ 11 ∧ ([1, 2, 3, 4, 5, 6, 7, 8, 9, 10, 0xFF] : List Byte).length ≤ 11 := by decide

theorem witness_Lookup2ConsumesBlocksThenTail : ([1, 2, 3, 4, 5, 6, 7, 8, 9, 10, 11] : List Byte).length < 12 := by decide

theorem witness_SeedsGiveDifferentTriples : (0 : Word) ≠ 1 := by decide

/-- A state of the invariant in an open session, whose step completes a block. -/
theorem witness_EveryStepKeepsTheInvariant :
    StateInv ((l2State 11).withPending [write 0x04 0x12000000]) ∧
      ∃ t, step ((l2State 11).withPending [write 0x04 0x12000000]) = .next t :=
  ⟨fun _ => ⟨by decide, by decide, by decide, by decide⟩, _, rfl⟩

theorem witness_NoStepChangesTheParameters :
    ∃ t, step (oaatState.withPending [write 0x04 0x03000000]) = .next t := ⟨_, rfl⟩

theorem witness_OnlyFinishWritesResult_oaat :
    ∃ t, performEvent (commandEvent .oaatFinish) (oaatState.withEngine { oaatState.engine with acc := 1 }) = .next t ∧
      t.engine.result ≠ oaatState.engine.result := ⟨_, rfl, by decide⟩
theorem witness_OnlyFinishWritesResult_l2 :
    ∃ t, performEvent (commandEvent .l2Finish) (l2State 0) = .next t ∧
      t.engine.result ≠ (l2State 0).engine.result := ⟨_, rfl, by decide⟩
theorem witness_OnlyFinishWritesResult_reset :
    ∃ t, performEvent (.reset none) (State.reset.withEngine { Engine.reset with result := 5 }) = .next t ∧
      t.engine.result ≠ (State.reset.withEngine { Engine.reset with result := 5 }).engine.result :=
  ⟨_, rfl, by decide⟩

theorem witness_OnlyStartAndFinishWriteMode_starts :
    (∃ t, performEvent (commandEvent .oaatStart) (l2State 3) = .next t ∧ t.engine.mode ≠ (l2State 3).engine.mode) ∧
      ∃ t, performEvent (commandEvent (.l2Start true)) oaatState = .next t ∧
        t.engine.mode ≠ oaatState.engine.mode := ⟨⟨_, rfl, by decide⟩, _, rfl, by decide⟩
theorem witness_OnlyStartAndFinishWriteMode_finishes :
    (∃ t, performEvent (commandEvent .oaatFinish) oaatState = .next t ∧ t.engine.mode ≠ oaatState.engine.mode) ∧
      ∃ t, performEvent (commandEvent .l2Finish) (l2State 3) = .next t ∧
        t.engine.mode ≠ (l2State 3).engine.mode := ⟨⟨_, rfl, by decide⟩, _, rfl, by decide⟩

theorem witness_OnlyStartAndFinishWriteDone_set :
    ∃ t, performEvent (commandEvent .l2Finish) (l2State 3) = .next t ∧ t.engine.done ≠ (l2State 3).engine.done :=
  ⟨_, rfl, by decide⟩
theorem witness_OnlyStartAndFinishWriteDone_cleared :
    ∃ t, performEvent (commandEvent .oaatStart) (State.reset.withEngine { Engine.reset with done := true }) = .next t ∧
      t.engine.done ≠ (State.reset.withEngine { Engine.reset with done := true }).engine.done := ⟨_, rfl, by decide⟩

theorem witness_RecordedErrorIsSticky_kept :
    (∃ t, performEvent (write 0x04 0x04000000) errorState = .next t) ∧ errorState.engine.err = true :=
  ⟨⟨_, rfl⟩, by decide⟩
theorem witness_RecordedErrorIsSticky_cleared :
    (∃ t, performEvent (commandEvent .clrErr) errorState = .next t ∧ t.engine.err ≠ errorState.engine.err) ∧
      errorState.engine.err = true := ⟨⟨_, rfl, by decide⟩, by decide⟩

theorem witness_OnlyOaatCommandsWriteAcc :
    (∃ t, performEvent (commandEvent (.oaatByte 0x61)) oaatState = .next t ∧ t.engine.acc ≠ oaatState.engine.acc) ∧
      ∃ t, performEvent (commandEvent .oaatStart) (State.reset.withEngine { Engine.reset with acc := 5 }) = .next t ∧
        t.engine.acc ≠ (State.reset.withEngine { Engine.reset with acc := 5 }).engine.acc :=
  ⟨⟨_, rfl, by decide⟩, _, rfl, by decide⟩

theorem witness_OnlyLookup2MixAndIdleWritesChangeTheWords_commands :
    (∃ t, performEvent (commandEvent (.l2Byte 0)) (l2State 11) = .next t ∧
        t.engine.words ≠ (l2State 11).engine.words) ∧
      (∃ t, performEvent (commandEvent (.l2Start false)) State.reset = .next t ∧
        t.engine.words ≠ State.reset.engine.words) ∧
      ∃ t, performEvent (commandEvent .mix) (State.reset.withEngine { Engine.reset with a := 1 }) = .next t ∧
        t.engine.words ≠ (State.reset.withEngine { Engine.reset with a := 1 }).engine.words :=
  ⟨⟨_, rfl, by decide⟩, ⟨_, rfl, by decide⟩, _, rfl, by decide⟩
theorem witness_OnlyLookup2MixAndIdleWritesChangeTheWords_writes :
    (∃ t, performEvent (write 0x1C 5) State.reset = .next t ∧ t.engine.words ≠ State.reset.engine.words) ∧
      ∃ t, performEvent (write 0x24 5) State.reset = .next t ∧ t.engine.words ≠ State.reset.engine.words :=
  ⟨⟨_, rfl, by decide⟩, _, rfl, by decide⟩

theorem witness_OnlySeedWritesChangeSeed :
    ∃ t, performEvent (write 0x0C 5) oaatState = .next t ∧ t.engine.seed ≠ oaatState.engine.seed := ⟨_, rfl, by decide⟩

theorem witness_LenCountsAcceptedBytes_counts :
    (oaatState.needsReset = false ∧ oaatState.engine.mode = .oaat) ∧
      ((l2State 11).needsReset = false ∧ (l2State 11).engine.mode = .l2) := by decide
theorem witness_LenCountsAcceptedBytes :
    (∃ t, performEvent (commandEvent (.l2Byte 0)) (l2State 11) = .next t ∧ t.engine.len ≠ (l2State 11).engine.len) ∧
      (∃ t, performEvent (commandEvent (.oaatByte 0)) oaatState = .next t ∧ t.engine.len ≠ oaatState.engine.len) ∧
      ∃ t, performEvent (commandEvent .oaatStart) (l2State 5) = .next t ∧ t.engine.len ≠ (l2State 5).engine.len :=
  ⟨⟨_, rfl, by decide⟩, ⟨_, rfl, by decide⟩, _, rfl, by decide⟩

/-- Two states of a session that has buffered ten bytes, which differ in the last two. -/
theorem witness_HiddenBytesReachNothing :
    SameButHiddenState ((l2State 10).withPending [write 0x04 0x12000021])
        (((l2State 10).withEngine { (l2State 10).engine with buf := (Vector.replicate 12 0).set 10 7 }).withPending
          [write 0x04 0x12000021]) ∧
      (l2State 10).engine.buf ≠ (Vector.replicate 12 0).set 10 7 :=
  ⟨⟨rfl, rfl, by decide⟩, by decide⟩

/-- A session over one byte with a read, a `SEED` write and a `NOP` between its commands. -/
theorem witness_OaatSessionComputesTheHash :
    State.reset.needsReset = false ∧
      carries [read 0x08, write 0x04 0x01000000, write 0x0C 9, write 0x04 0x02000080, write 0x04 0x00000000,
        write 0x04 0x03000000] (oaatSession [0x80]) := by
  refine ⟨by decide, ?_⟩
  unfold carries; decide

theorem witness_Lookup2SessionComputesTheHash :
    errorState.needsReset = false ∧
      carries [write 0x04 0x12000061, read 0x1C, write 0x08 0xFFFFFFFF, write 0x04 0x13000000] (l2Input [0x61]) := by
  refine ⟨by decide, ?_⟩
  unfold carries; decide

theorem witness_OpenLookup2SessionHoldsItsTail :
    State.reset.needsReset = false ∧
      carries [write 0x04 0x12000061, write 0x0C 9, write 0x04 0x12000062] (([0x61, 0x62] : List Byte).map .l2Byte) := by
  refine ⟨by decide, ?_⟩
  unfold carries; decide

/-- Accesses inside a session, a byte, a read, a misplaced command, an illegal word and a locked write among them. -/
theorem witness_CleanOaatSessionHashedWhatWasSent :
    State.reset.needsReset = false ∧ State.reset.engine.err = false ∧
      ∀ event ∈ [write 0x04 0x02000061, read 0x18, write 0x04 0x20000000, write 0x04 0x04000000, write 0x1C 5],
        insideSession event = true := by decide

theorem witness_WindowStandsAtItsBase :
    Config.engineBase + 64 ≤ Config.engineBase + 64 ∧ (0x00 : Offset).toNat % 4 = 0 ∧ (0x3C : Offset).toNat % 4 = 0 :=
  ⟨Nat.le_refl _, by decide, by decide⟩

theorem witness_StringPseudoExpandsToASession :
    ((0 : Int) ≤ 0 ∧ (0 : Int) < 4294967296) ∧ ((0 : Int) ≤ 4294967295 ∧ (4294967295 : Int) < 4294967296) := by decide

end Sys2Proof.Machine.Tests
end

