-- ==== Sys2Proof/Proofs/SessionCost.lean ====
section
/-!
What a command list costs on the bus (70_reset_and_hazards.md R142): the cost of a list is additive, so that of a session
is the cost of its two ends and one `BYTE` command for each byte of the input.
-/

namespace Sys2Proof.Machine

theorem one_le_tCmd (opc : BitVec 8) : 1 ≤ Config.tCmd opc := by
  unfold Config.tCmd
  omega

section BusCycles
variable (i : Instr) (cs ds : List Instr)

@[simp] theorem busCycles_nil : busCycles [] = 0 := rfl

@[simp] theorem busCycles_cons : busCycles (i :: cs) = Config.tCmd (opcodeOf i) + busCycles cs := by
  simp [busCycles]

@[simp] theorem busCycles_append : busCycles (cs ++ ds) = busCycles cs + busCycles ds := by
  simp [busCycles]

end BusCycles

theorem busCycles_map_of_opcodeOf_eq {byte : Byte → Instr} {opc : BitVec 8} (hopc : ∀ b, opcodeOf (byte b) = opc)
    (m : List Byte) : busCycles (m.map byte) = m.length * Config.tCmd opc := by
  induction m with
  | nil => simp
  | cons b m ih =>
    rw [List.map_cons, busCycles_cons, hopc, ih, List.length_cons, Nat.succ_mul, Nat.add_comm]

/-- The shape both session kinds share: a start, one command for each byte, a finish. -/
theorem busCycles_session (start finish : Instr) (byte : Byte → Instr) {opc : BitVec 8}
    (hopc : ∀ b, opcodeOf (byte b) = opc) (m : List Byte) :
    busCycles (start :: (m.map byte ++ [finish])) =
      m.length * Config.tCmd opc + (Config.tCmd (opcodeOf start) + Config.tCmd (opcodeOf finish)) := by
  simp only [busCycles_cons, busCycles_append, busCycles_nil, busCycles_map_of_opcodeOf_eq hopc]
  omega

/-- Settles O59: both session kinds are instances of `busCycles_session`. -/
theorem sessionCostIsLinear : Obligations.SessionCostIsLinear := by
  unfold Obligations.SessionCostIsLinear
  refine ⟨fun i => one_le_tCmd (opcodeOf i), fun m => ?oaat, fun m seeded => ?lookup2⟩
  case oaat => exact busCycles_session .oaatStart .oaatFinish .oaatByte (fun _ => rfl) m
  case lookup2 => exact busCycles_session (.l2Start seeded) .l2Finish .l2Byte (fun _ => rfl) m

end Sys2Proof.Machine
end

section
/-!
Decoding and encoding, as far as the statements about whole-machine rules need them: the word of a command decodes to it
(30_encoding.md R62), and a word that decodes to a command is that command's word (R57, R63).
-/

namespace Sys2Proof

theorem ifReservedClear_eq_legal_iff {w : Nat} (reserved : BitVec w) (i j : Instr) :
    ifReservedClear reserved i = .legal j ↔ reserved = 0 ∧ i = j := by
  unfold ifReservedClear
  split <;> simp_all

theorem formatN_eq {v : Word} {opc : BitVec 8} (hopc : opcField v = opc) (h : reservedN v = 0) :
    formatN opc = v := by
  subst hopc
  calc formatN (opcField v) = v.extractLsb' 24 8 ++ v.extractLsb' 0 24 := by rw [formatN, ← h]; rfl
    _ = v := BitVec.extractLsb'_append_extractLsb'

theorem formatB_eq {v : Word} {opc : BitVec 8} (hopc : opcField v = opc) (h : reservedB v = 0) :
    formatB opc (byteField v) = v := by
  subst hopc
  calc formatB (opcField v) (byteField v)
      = (v.extractLsb' 24 8 ++ v.extractLsb' 8 16) ++ v.extractLsb' 0 8 := by rw [formatB, ← h]; rfl
    _ = v.extractLsb' 8 24 ++ v.extractLsb' 0 8 := by
      rw [BitVec.extractLsb'_append_extractLsb'_eq_extractLsb' (by rfl)]
    _ = v := BitVec.extractLsb'_append_extractLsb'

theorem ofBool_seedSelectField (v : Word) : BitVec.ofBool (seedSelectField v) = v.extractLsb' 0 1 := by
  rw [seedSelectField, BitVec.getLsbD_eq_extractLsb']
  generalize v.extractLsb' 0 1 = b
  revert b; decide

theorem formatS_eq {v : Word} {opc : BitVec 8} (hopc : opcField v = opc) (h : reservedS v = 0) :
    formatS opc (seedSelectField v) = v := by
  subst hopc
  calc formatS (opcField v) (seedSelectField v)
      = (v.extractLsb' 24 8 ++ v.extractLsb' 1 23) ++ v.extractLsb' 0 1 := by
        rw [formatS, ← h, ofBool_seedSelectField]; rfl
    _ = v.extractLsb' 1 31 ++ v.extractLsb' 0 1 := by
      rw [BitVec.extractLsb'_append_extractLsb'_eq_extractLsb' (by rfl)]
    _ = v := BitVec.extractLsb'_append_extractLsb'

/-- A legal word is the word of the command it decodes to: its format reserves every bit that no field takes. -/
theorem encode_eq_of_decode {v : Word} {i : Instr} (h : decode v = .legal i) : encode i = v := by
  unfold decode at h
  split at h
  case h_10 => exact absurd h (by simp)
  case h_1 hopc | h_2 hopc | h_4 hopc | h_7 hopc | h_8 hopc | h_9 hopc =>
    obtain ⟨hres, rfl⟩ := (ifReservedClear_eq_legal_iff _ _ _).1 h
    exact formatN_eq hopc hres
  case h_3 hopc | h_6 hopc =>
    obtain ⟨hres, rfl⟩ := (ifReservedClear_eq_legal_iff _ _ _).1 h
    exact formatB_eq hopc hres
  case h_5 hopc =>
    obtain ⟨hres, rfl⟩ := (ifReservedClear_eq_legal_iff _ _ _).1 h
    exact formatS_eq hopc hres

theorem decode_encode (i : Instr) : decode (encode i) = .legal i := by
  cases i with
  | oaatByte byte => revert byte; decide
  | l2Start seeded => revert seeded; decide
  | l2Byte byte => revert byte; decide
  | _ => decide

end Sys2Proof
end

section
/-!
What one access can do to the engine, as one case per way of changing it. Every statement on which event writes a
field (10_state.md R16 to R26) and the invariant are read off these cases: the cases a statement names write the field,
and the frame lemmas of Sys2Proof/Laws/State.lean say that the others leave it alone.
-/

namespace Sys2Proof.Machine

/-! ### The two operations that Laws/State.lean has no field lemmas of -/

@[simp] theorem Engine.mixRegisters_eq (config : Config) (e : Engine) :
    e.mixRegisters config = e.setWords (mixWords config e.words) := rfl

/-- A byte that does not complete a block is buffered (42_lookup2.md R95). -/
theorem Engine.absorbL2_of_lt (config : Config) (byte : Byte) (e : Engine) (h : e.bufcnt.val + 1 < 12) :
    e.absorbL2 config byte = { e.takeByte byte with bufcnt := ⟨e.bufcnt.val + 1, h⟩ } :=
  dif_pos h

/-- The byte that completes a block folds and mixes it (42_lookup2.md R95). -/
theorem Engine.absorbL2_of_last (config : Config) (byte : Byte) (e : Engine) (h : ¬ e.bufcnt.val + 1 < 12) :
    e.absorbL2 config byte =
      { (e.takeByte byte).setWords (blockStep config e.words (e.takeByte byte).buf) with bufcnt := 0 } :=
  dif_neg h

theorem Engine.absorbL2_words_of_lt (config : Config) (byte : Byte) (e : Engine) (h : e.bufcnt.val + 1 < 12) :
    (e.absorbL2 config byte).words = e.words := by
  rw [e.absorbL2_of_lt config byte h]; rfl

theorem Engine.absorbL2_bufcnt (config : Config) (byte : Byte) (e : Engine) :
    (e.absorbL2 config byte).bufcnt.val = (e.bufcnt.val + 1) % 12 := by
  by_cases h : e.bufcnt.val + 1 < 12
  · simp [e.absorbL2_of_lt config byte h, Nat.mod_eq_of_lt h]
  · have hlast : e.bufcnt.val + 1 = 12 := by omega
    simp [e.absorbL2_of_last config byte h, hlast]

/-! ### The cases -/

/-- What an allowed access can leave of the engine `e`: the access, and the engine after it. -/
inductive AccessMove (config : Config) (e : Engine) : BusAccess → Engine → Prop where
  /-- A read, `NOP`, or a write that is ignored (20_memory.md R40, R44). -/
  | keep (a : BusAccess) : AccessMove config e a e
  /-- An interface error (60_exceptions.md R115, R117, R118). -/
  | recordError (a : BusAccess) (code : ErrCode) (hcode : code ≠ .none) :
    AccessMove config e a (e.recordError code)
  /-- A write of `SEED` (20_memory.md R42). -/
  | writeSeed (v : Word) : AccessMove config e (.write .w32 0x0C v) (e.setSeed v)
  /-- A write of `A`, `B` or `C` (20_memory.md R43). -/
  | writeWord (off : Offset) (v : Word) (w : Words3) (hoff : off ∈ ([0x1C, 0x20, 0x24] : List Offset))
    (hm : e.mode = .idle) : AccessMove config e (.write .w32 off v) (e.setWords w)
  | oaatStart : AccessMove config e (cmdWrite (encode .oaatStart)) e.startOaat
  | oaatByte (byte : Byte) (hm : e.mode = .oaat) :
    AccessMove config e (cmdWrite (encode (.oaatByte byte))) (e.absorbOaat byte)
  | oaatFinish (hm : e.mode = .oaat) : AccessMove config e (cmdWrite (encode .oaatFinish)) e.finishOaat
  | l2Start (seeded : Bool) : AccessMove config e (cmdWrite (encode (.l2Start seeded))) (e.startL2 seeded)
  | l2Byte (byte : Byte) (hm : e.mode = .l2) :
    AccessMove config e (cmdWrite (encode (.l2Byte byte))) (e.absorbL2 config byte)
  | l2Finish (hm : e.mode = .l2) : AccessMove config e (cmdWrite (encode .l2Finish)) (e.finishL2 config)
  | mix (hm : e.mode = .idle) : AccessMove config e (cmdWrite (encode .mix)) (e.mixRegisters config)
  | clrErr : AccessMove config e (cmdWrite (encode .clrErr)) e.clearError

/-- An access that has its effect in one mode only records an error in the others. -/
theorem AccessMove.inMode {config : Config} {e f : Engine} {a : BusAccess} {m : Mode} {code : ErrCode}
    (hcode : code ≠ .none) (h : e.mode = m → AccessMove config e a f) :
    AccessMove config e a (if e.mode = m then f else e.recordError code) := by
  split
  case isTrue hm => exact h hm
  case isFalse => exact .recordError a code hcode

theorem afterCommand_move (config : Config) (i : Instr) (e : Engine) :
    AccessMove config e (cmdWrite (encode i)) (afterCommand config i e) := by
  cases i with
  | nop => exact .keep _
  | oaatStart => exact .oaatStart
  | oaatByte byte => exact .inMode (by decide) (.oaatByte byte)
  | oaatFinish => exact .inMode (by decide) .oaatFinish
  | l2Start seeded => exact .l2Start seeded
  | l2Byte byte => exact .inMode (by decide) (.l2Byte byte)
  | l2Finish => exact .inMode (by decide) .l2Finish
  | mix => exact .inMode (by decide) .mix
  | clrErr => exact .clrErr

theorem afterWord_of_decode {v : Word} {i : Instr} (h : decode v = .legal i) (config : Config) (e : Engine) :
    afterWord config v e = afterCommand config i e := by
  simp [afterWord, h]

theorem afterWord_of_illegal {v : Word} {why : IllegalWord} (h : decode v = .illegal why) (config : Config)
    (e : Engine) : afterWord config v e = e.recordError .illegalCmd := by
  simp [afterWord, h]

theorem afterWord_move (config : Config) (v : Word) (e : Engine) :
    AccessMove config e (cmdWrite v) (afterWord config v e) := by
  cases h : decode v with
  | legal i =>
    rw [afterWord_of_decode h, ← encode_eq_of_decode h]
    exact afterCommand_move config i e
  | illegal why =>
    rw [afterWord_of_illegal h]
    exact .recordError _ _ (by decide)

theorem afterWrite_move (config : Config) (off : Offset) (v : Word) (e : Engine) :
    AccessMove config e (.write .w32 off v) (afterWrite config off v e) := by
  unfold afterWrite
  split
  case h_1 h => exact regAt_eq_some off _ h ▸ afterWord_move config v e
  case h_2 h => exact regAt_eq_some off _ h ▸ .writeSeed v
  case h_3 h =>
    exact .inMode (by decide) (.writeWord off v { e.words with a := v } (regAt_eq_some off _ h ▸ by decide))
  case h_4 h =>
    exact .inMode (by decide) (.writeWord off v { e.words with b := v } (regAt_eq_some off _ h ▸ by decide))
  case h_5 h =>
    exact .inMode (by decide) (.writeWord off v { e.words with c := v } (regAt_eq_some off _ h ▸ by decide))
  case h_6 => exact .keep _

theorem accessWf_width {width : AccessWidth} {off : Offset} (h : accessWf width off = true) : width = .w32 := by
  simp_all [accessWf]

/-- Everything an allowed access can do to the engine. -/
theorem afterAccess_move (config : Config) (a : BusAccess) (e : Engine) (hw : a.wf = true) :
    AccessMove config e a (afterAccess config a e) := by
  cases a with
  | read width off => exact .keep _
  | write width off v =>
    obtain rfl := accessWf_width hw
    exact afterWrite_move config off v e

/-- Everything an event that answers a next state can have done to the engine, unless it is a reset or a loss of
power. -/
theorem performEvent_move {event : BusEvent} {s t : State} (h : performEvent event s = .next t) :
    (∃ a, event = .access a ∧ AccessMove s.config s.engine a t.engine) ∨ resets event = true := by
  obtain ⟨a, rfl, -, hw, rfl⟩ | ⟨o, r, k, rfl, -⟩ | ⟨e, k, rfl, -⟩ := performEvent_next_cases event s t h
  · exact .inl ⟨a, rfl, afterAccess_move s.config a s.engine hw⟩
  · exact .inr rfl
  · exact .inr rfl

/-! ### The invariant -/

theorem engineInv_reset : EngineInv Engine.reset := by
  exact ⟨by decide, by decide, by decide, by decide⟩

/-- Settles O42: the engine after reset is that of every variant. -/
theorem invariantHoldsAtReset : Obligations.InvariantHoldsAtReset := by
  unfold Obligations.InvariantHoldsAtReset
  exact ⟨fun _ => engineInv_reset, fun _ _ => engineInv_reset⟩

theorem EngineInv.recordError {e : Engine} (h : EngineInv e) {code : ErrCode} (hcode : code ≠ .none) :
    EngineInv (e.recordError code) := by
  obtain ⟨herr, hbuf, hdone, hlen⟩ := h
  refine ⟨?_, by simpa using hbuf, by simpa using hdone, by simpa using hlen⟩
  rw [Engine.recordError_err, Engine.recordError_errcode]
  split
  case isTrue he => simpa using herr.1 he
  case isFalse => simpa using hcode

/-- `LEN` and `BUFCNT` both grow by one; 4 divides 12 and 2^32, so they wrap together modulo 4. -/
theorem EngineInv.absorbL2 {e : Engine} (h : EngineInv e) (config : Config) (byte : Byte) (hm : e.mode = .l2) :
    EngineInv (e.absorbL2 config byte) := by
  obtain ⟨herr, -, hdone, hlen⟩ := h
  refine ⟨by simpa using herr, by simp [hm], by simpa using hdone, fun _ => ?_⟩
  have hagree := hlen hm
  rw [Engine.absorbL2_len, Engine.absorbL2_bufcnt, BitVec.toNat_add]
  have hone : (1 : Word).toNat = 1 := rfl
  omega

theorem AccessMove.engineInv {config : Config} {e f : Engine} {a : BusAccess} (h : AccessMove config e a f)
    (hinv : EngineInv e) : EngineInv f := by
  have ⟨herr, hbuf, hdone, hlen⟩ := hinv
  cases h with
  | keep => exact hinv
  | recordError _ code hcode => exact hinv.recordError hcode
  | writeSeed | writeWord | mix => simpa [EngineInv] using hinv
  | oaatStart => exact ⟨by simpa using herr, by simp, by simp, by simp⟩
  | oaatByte byte hm => exact ⟨by simpa using herr, by simpa using hbuf, by simpa using hdone, by simp [hm]⟩
  | oaatFinish hm => exact ⟨by simpa using herr, by simpa [hm] using hbuf, by simp, by simp⟩
  | l2Start seeded => exact ⟨by simpa using herr, by simp, by simp, by simp⟩
  | l2Byte byte hm => exact hinv.absorbL2 config byte hm
  | l2Finish hm => exact ⟨by simpa using herr, by simp, by simp, by simp⟩
  | clrErr => exact ⟨by simp, by simpa using hbuf, by simpa using hdone, by simpa using hlen⟩

/-- Settles O43: an access moves the engine by one of the cases of `AccessMove`, each of which keeps the invariant; a
reset establishes it; after a loss of power it claims nothing. -/
theorem everyStepKeepsTheInvariant : Obligations.EveryStepKeepsTheInvariant := by
  unfold Obligations.EveryStepKeepsTheInvariant
  intro s t hinv h
  obtain ⟨-, rfl⟩ | ⟨a, rest, -, hr, hw, rfl⟩ | ⟨o, rest, r, k, -, rfl⟩ | ⟨rest, e, k, -, rfl⟩ :=
    step_next_cases s t h
  · exact hinv
  · exact fun _ => (afterAccess_move s.config a s.engine hw).engineInv (hinv hr)
  · exact fun _ => engineInv_reset
  · exact fun hpowered => absurd hpowered (by simp)

/-- Settles O44: no case of a step writes the configuration. -/
theorem noStepChangesTheParameters : Obligations.NoStepChangesTheParameters := by
  unfold Obligations.NoStepChangesTheParameters
  intro s t h
  obtain ⟨-, rfl⟩ | ⟨a, rest, -, hr, hw, rfl⟩ | ⟨o, rest, r, k, -, rfl⟩ | ⟨rest, e, k, -, rfl⟩ :=
    step_next_cases s t h
  · rfl
  · rfl
  · rfl
  · rfl

/-! ### Which event writes a field -/

/-- Settles O45: of the moves of the engine only the two FINISH commands write `RESULT`. -/
theorem onlyFinishWritesResult : Obligations.OnlyFinishWritesResult := by
  unfold Obligations.OnlyFinishWritesResult
  intro event s t h hne
  obtain ⟨a, rfl, hmove⟩ | hreset := performEvent_move h
  · generalize t.engine = f at hne hmove
    cases hmove with
    | oaatFinish hm => exact .inl ⟨rfl, hm⟩
    | l2Finish hm => exact .inr (.inl ⟨rfl, hm⟩)
    | _ => simp at hne
  · exact .inr (.inr hreset)

/-- Settles O46: the two START and the two FINISH commands write `MODE`, each to one mode. -/
theorem onlyStartAndFinishWriteMode : Obligations.OnlyStartAndFinishWriteMode := by
  unfold Obligations.OnlyStartAndFinishWriteMode
  intro event s t h hne
  obtain ⟨a, rfl, hmove⟩ | hreset := performEvent_move h
  · generalize t.engine = f at hne hmove
    cases hmove with
    | oaatStart => exact .inl ⟨rfl, rfl⟩
    | l2Start seeded => exact .inr (.inl ⟨seeded, rfl, rfl⟩)
    | oaatFinish hm => exact .inr (.inr (.inl ⟨rfl, hm, rfl⟩))
    | l2Finish hm => exact .inr (.inr (.inr (.inl ⟨rfl, hm, rfl⟩)))
    | _ => simp at hne
  · exact .inr (.inr (.inr (.inr hreset)))

/-- Settles O47: a completing FINISH sets `DONE`, a START clears it. -/
theorem onlyStartAndFinishWriteDone : Obligations.OnlyStartAndFinishWriteDone := by
  unfold Obligations.OnlyStartAndFinishWriteDone
  intro event s t h hne
  obtain ⟨a, rfl, hmove⟩ | hreset := performEvent_move h
  · generalize t.engine = f at hne hmove
    cases hmove with
    | oaatFinish hm => exact .inl ⟨rfl, .inl ⟨rfl, hm⟩⟩
    | l2Finish hm => exact .inl ⟨rfl, .inr ⟨rfl, hm⟩⟩
    | oaatStart => exact .inr (.inl ⟨rfl, .inl rfl⟩)
    | l2Start seeded => exact .inr (.inl ⟨rfl, .inr ⟨seeded, rfl⟩⟩)
    | _ => simp at hne
  · exact .inr (.inr hreset)

/-- Settles O48: a further error keeps the code that stands, and of the other moves only `CLR_ERR` touches it. -/
theorem recordedErrorIsSticky : Obligations.RecordedErrorIsSticky := by
  unfold Obligations.RecordedErrorIsSticky
  intro event s t h herr
  obtain ⟨a, rfl, hmove⟩ | hreset := performEvent_move h
  · generalize t.engine = f at hmove
    cases hmove with
    | recordError _ code => exact .inl ⟨by simp, by simp [Engine.recordError_errcode, herr]⟩
    | clrErr => exact .inr (.inl rfl)
    | _ => exact .inl ⟨by simpa using herr, by simp⟩
  · exact .inr (.inr hreset)

/-- Settles O49: of the moves of the engine only the three OAAT commands write `ACC`. -/
theorem onlyOaatCommandsWriteAcc : Obligations.OnlyOaatCommandsWriteAcc := by
  unfold Obligations.OnlyOaatCommandsWriteAcc
  intro event s t h hne
  obtain ⟨a, rfl, hmove⟩ | hreset := performEvent_move h
  · generalize t.engine = f at hne hmove
    cases hmove with
    | oaatStart => exact .inl rfl
    | oaatByte byte => exact .inr (.inl ⟨byte, rfl⟩)
    | oaatFinish => exact .inr (.inr (.inl rfl))
    | _ => simp at hne
  · exact .inr (.inr (.inr hreset))

theorem Engine.words_eq_of_fields {e f : Engine} (ha : f.a = e.a) (hb : f.b = e.b) (hc : f.c = e.c) :
    f.words = e.words := by
  rw [Engine.words, Engine.words, ha, hb, hc]

/-- Settles O50: the words change by the three lookup2 commands, by `MIX` and by the host's writes; an `L2_BYTE` that
completes no block leaves them alone. -/
theorem onlyLookup2MixAndIdleWritesChangeTheWords : Obligations.OnlyLookup2MixAndIdleWritesChangeTheWords := by
  unfold Obligations.OnlyLookup2MixAndIdleWritesChangeTheWords
  intro event s t h hne
  obtain ⟨a, rfl, hmove⟩ | hreset := performEvent_move h
  · generalize t.engine = f at hne hmove
    cases hmove with
    | l2Start seeded => exact .inl ⟨seeded, rfl⟩
    | l2Byte byte hm =>
      have hlast : ¬ s.engine.bufcnt.val + 1 < 12 := fun hlt =>
        hne (Engine.absorbL2_words_of_lt s.config byte s.engine hlt)
      exact .inr (.inl ⟨byte, rfl, hm, by omega⟩)
    | l2Finish hm => exact .inr (.inr (.inl ⟨rfl, hm⟩))
    | mix hm => exact .inr (.inr (.inr (.inl ⟨rfl, hm⟩)))
    | writeWord off v w hoff hm => exact .inr (.inr (.inr (.inr (.inl ⟨off, v, hoff, rfl, hm⟩))))
    | _ => exact absurd (Engine.words_eq_of_fields (by simp) (by simp) (by simp)) hne
  · exact .inr (.inr (.inr (.inr (.inr hreset))))

/-- Settles O51: of the moves of the engine only the write of `SEED` writes it, with the value written. -/
theorem onlySeedWritesChangeSeed : Obligations.OnlySeedWritesChangeSeed := by
  unfold Obligations.OnlySeedWritesChangeSeed
  intro event s t h hne
  obtain ⟨a, rfl, hmove⟩ | hreset := performEvent_move h
  · generalize t.engine = f at hne hmove ⊢
    cases hmove with
    | writeSeed v => exact .inl rfl
    | _ => simp at hne
  · exact .inr hreset

/-- Once the engine is reset, the write of a command has that command's effect. -/
theorem performEvent_commandEvent (i : Instr) (s : State) (hr : s.needsReset = false) :
    performEvent (commandEvent i) s =
      .next { s with engine := afterCommand s.config i s.engine, response := some .writeDone } := by
  rw [← afterWord_of_decode (decode_encode i)]
  exact performEvent_access s (cmdWrite (encode i)) hr rfl

/-- Settles O52: the effect of each of the four commands on `LEN`; and of the moves of the engine, none but these
writes it. -/
theorem lenCountsAcceptedBytes : Obligations.LenCountsAcceptedBytes := by
  unfold Obligations.LenCountsAcceptedBytes
  refine ⟨fun s hr => ⟨?oaatStart, fun seeded => ?l2Start, fun hm byte => ?oaatByte, fun hm byte => ?l2Byte⟩, ?only⟩
  case oaatStart => exact ⟨_, performEvent_commandEvent .oaatStart s hr, rfl⟩
  case l2Start => exact ⟨_, performEvent_commandEvent (.l2Start seeded) s hr, rfl⟩
  case oaatByte => exact ⟨_, performEvent_commandEvent (.oaatByte byte) s hr, by simp [afterCommand, hm]⟩
  case l2Byte => exact ⟨_, performEvent_commandEvent (.l2Byte byte) s hr, by simp [afterCommand, hm]⟩
  case only =>
    intro event s t h hne
    obtain ⟨a, rfl, hmove⟩ | hreset := performEvent_move h
    · generalize t.engine = f at hne hmove ⊢
      cases hmove with
      | oaatStart => exact .inl ⟨rfl, .inl rfl⟩
      | l2Start seeded => exact .inl ⟨rfl, .inr ⟨seeded, rfl⟩⟩
      | oaatByte byte hm => exact .inr (.inl ⟨rfl, .inl ⟨hm, byte, rfl⟩⟩)
      | l2Byte byte hm => exact .inr (.inl ⟨by simp, .inr ⟨hm, byte, rfl⟩⟩)
      | _ => simp at hne
    · exact .inr (.inr hreset)

end Sys2Proof.Machine
end

section
/-!
What the registers read as: the fields of `STATUS` (10_state.md R23 to R27) and the values after reset (R34).
-/

namespace Sys2Proof.Machine

theorem regRead_of_regAt {off : Offset} {name : RegName} (h : regAt off = some name) (config : Config) (e : Engine) :
    regRead config e off = readReg config e name := by
  simp [regRead, h]

theorem regRead_reserved {off : Offset} (h : regAt off = none) (config : Config) (e : Engine) :
    regRead config e off = 0 := by
  simp [regRead, h]

theorem regRead_status (config : Config) (e : Engine) : regRead config e 0x08 = statusWord config e :=
  regRead_of_regAt (name := .status) rfl config e

theorem foldLiteralBit_eq (config : Config) :
    foldLiteralBit config = BitVec.ofBool (decide (config.l2FoldMode = .literal)) := by
  cases h : config.l2FoldMode <;> simp [foldLiteralBit, h]

theorem mixBLeftBit_eq (config : Config) :
    mixBLeftBit config = BitVec.ofBool (decide (config.mixBShift = .left)) := by
  cases h : config.mixBShift <;> simp [mixBLeftBit, h]

/-- The parts `STATUS` is put together from stand where 10_state.md R23 puts its fields: the parts below a field are
dropped, and it is the low end of what is left. -/
theorem statusWord_fields (config : Config) (e : Engine) :
    (statusWord config e).extractLsb' 0 2 = modeCode e.mode ∧
    (statusWord config e).extractLsb' 2 1 = BitVec.ofBool e.done ∧
    (statusWord config e).extractLsb' 3 1 = BitVec.ofBool e.err ∧
    (statusWord config e).extractLsb' 4 4 = errorCode e.errcode ∧
    (statusWord config e).extractLsb' 8 4 = BitVec.ofNat 4 e.bufcnt.val ∧
    (statusWord config e).extractLsb' 12 1 = foldLiteralBit config ∧
    (statusWord config e).extractLsb' 13 1 = mixBLeftBit config ∧
    (statusWord config e).extractLsb' 14 18 = 0 := by
  unfold statusWord
  refine ⟨?_, ?_, ?_, ?_, ?_, ?_, ?_, ?reserved⟩
  case reserved =>
    repeat rw [BitVec.extractLsb'_append_eq_of_le (by decide)]
    exact BitVec.extractLsb'_eq_self
  all_goals
    repeat rw [BitVec.extractLsb'_append_eq_of_le (by decide)]
    rw [BitVec.extractLsb'_append_eq_of_add_le (by decide), BitVec.extractLsb'_eq_self]

theorem getLsbD_eq_of_extractLsb'_eq_ofBool {w : Nat} {x : BitVec w} {i : Nat} {b : Bool}
    (h : x.extractLsb' i 1 = BitVec.ofBool b) : x.getLsbD i = b := by
  rw [BitVec.getLsbD_eq_extractLsb', h]
  cases b <;> rfl

/-- Settles O13: each field of the word is one of the parts it is put together from (20_memory.md R39). -/
theorem statusFieldsStandAtTheirBits : Obligations.StatusFieldsStandAtTheirBits := by
  unfold Obligations.StatusFieldsStandAtTheirBits
  intro config e
  rw [regRead_status]
  obtain ⟨hmode, hdone, herr, herrcode, hbufcnt, hfold, hmix, hreserved⟩ := statusWord_fields config e
  refine ⟨?mode, getLsbD_eq_of_extractLsb'_eq_ofBool hdone, getLsbD_eq_of_extractLsb'_eq_ofBool herr, ?errcode,
    ?bufcnt, getLsbD_eq_of_extractLsb'_eq_ofBool (hfold.trans (foldLiteralBit_eq config)),
    getLsbD_eq_of_extractLsb'_eq_ofBool (hmix.trans (mixBLeftBit_eq config)), hreserved⟩
  case mode => rw [hmode]; cases e.mode <;> rfl
  case errcode => rw [herrcode]; cases e.errcode <;> rfl
  case bufcnt => rw [hbufcnt, BitVec.toNat_ofNat]; omega

theorem statusWord_reset (config : Config) :
    statusWord config Engine.reset =
      (0 : BitVec 18) ++ (if config.mixBShift = .left then 1 else 0 : BitVec 1) ++
        (if config.l2FoldMode = .literal then 1 else 0 : BitVec 1) ++ (0 : BitVec 12) := by
  rw [statusWord, mixBLeftBit_eq, foldLiteralBit_eq]
  cases config.mixBShift <;> cases config.l2FoldMode <;> decide

/-- Settles O19: whatever the reset overlaps, it leaves the engine's reset state. -/
theorem resetGivesTheResetValues : Obligations.ResetGivesTheResetValues := by
  unfold Obligations.ResetGivesTheResetValues
  intro s overlapping
  obtain ⟨r, k, hreset⟩ := resetEngine_spec overlapping s
  exact ⟨_, hreset, rfl, rfl, rfl, rfl, rfl, rfl, rfl, rfl, rfl, rfl, rfl, rfl, rfl, rfl,
    (regRead_status _ _).trans (statusWord_reset s.config)⟩

/-- After reset every register but `ID` and `STATUS` reads 0. -/
theorem regRead_reset_eq_zero (config : Config) {off : Offset} (hid : off ≠ 0x00) (hstatus : off ≠ 0x08) :
    regRead config Engine.reset off = 0 := by
  cases h : regAt off with
  | none => exact regRead_reserved h config _
  | some name =>
    rw [regRead_of_regAt h]
    cases name with
    | id => exact absurd (regAt_eq_some off _ h) hid
    | status => exact absurd (regAt_eq_some off _ h) hstatus
    | _ => rfl

/-- Settles O20: the state after reset holds the configuration and the engine's reset state. -/
theorem stateAfterResetReadsAsListed : Obligations.StateAfterResetReadsAsListed := by
  unfold Obligations.StateAfterResetReadsAsListed
  intro config
  refine ⟨rfl, fun off hid hstatus => regRead_reset_eq_zero config hid hstatus, rfl, ?variant, ?default⟩
  case variant => exact (regRead_status _ _).trans (statusWord_reset config)
  case default => exact (regRead_status _ _).trans (statusWord_reset .default)

end Sys2Proof.Machine
end

section
/-!
The bytes `BUF[BUFCNT..11]` reach nothing (10_state.md R32): every operation on the engine takes engines that differ in
them only to engines that differ in them only, no read sees them, and so no event does.
-/

namespace Sys2Proof.Machine

theorem sameButHidden_iff (e f : Engine) :
    SameButHidden e f ↔
      ∃ b : Vector Byte 12, f = { e with buf := b } ∧ ∀ i : Fin 12, i.val < e.bufcnt.val → e.buf[i] = b[i] := by
  constructor
  · rintro ⟨hf, hvalid⟩
    exact ⟨f.buf, hf, hvalid⟩
  · rintro ⟨b, rfl, hvalid⟩
    exact ⟨rfl, hvalid⟩

theorem SameButHidden.refl (e : Engine) : SameButHidden e e := ⟨rfl, fun _ _ => rfl⟩

theorem SameButHidden.mode_eq {e f : Engine} (h : SameButHidden e f) : f.mode = e.mode := by rw [h.1]

/-- The buffered bytes are not hidden. -/
theorem SameButHidden.tail_eq {e f : Engine} (h : SameButHidden e f) : f.tail = e.tail := by
  obtain ⟨b, rfl, hvalid⟩ := (sameButHidden_iff e f).1 h
  refine List.ext_getElem (by simp [Engine.tail]) fun i hi _ => ?_
  have hcnt : i < e.bufcnt.val := by simp [Engine.tail] at hi; omega
  simpa [Engine.tail] using (hvalid ⟨i, by omega⟩ hcnt).symm

/-- No register shows a byte of `BUF`. -/
theorem SameButHidden.regRead_eq {e f : Engine} (h : SameButHidden e f) (config : Config) (off : Offset) :
    regRead config f off = regRead config e off := by
  obtain ⟨b, rfl, -⟩ := (sameButHidden_iff e f).1 h
  cases hat : regAt off with
  | none => rw [regRead_reserved hat, regRead_reserved hat]
  | some name =>
    rw [regRead_of_regAt hat, regRead_of_regAt hat]
    cases name <;> rfl

/-- An operation that lets no hidden byte reach anything but the hidden bytes. -/
def IgnoresHidden (g : Engine → Engine) : Prop :=
  ∀ e f : Engine, SameButHidden e f → SameButHidden (g e) (g f)

/-- An operation that leaves `BUF` alone, does not read it and buffers no byte. -/
theorem ignoresHidden_of_frame (g : Engine → Engine)
    (hcomm : ∀ (e : Engine) (b : Vector Byte 12), g { e with buf := b } = { g e with buf := b })
    (hbuf : ∀ e, (g e).buf = e.buf) (hcnt : ∀ e, (g e).bufcnt.val ≤ e.bufcnt.val) : IgnoresHidden g := by
  intro e f h
  obtain ⟨b, rfl, hvalid⟩ := (sameButHidden_iff e f).1 h
  refine (sameButHidden_iff _ _).2 ⟨b, hcomm e b, fun i hi => ?_⟩
  rw [hbuf]
  exact hvalid i (Nat.lt_of_lt_of_le hi (hcnt e))

section FrameOperations
variable (byte : Byte) (seeded : Bool) (v : Word) (config : Config)

theorem ignoresHidden_setSeed : IgnoresHidden (·.setSeed v) :=
  ignoresHidden_of_frame _ (fun _ _ => rfl) (by simp) (by simp)

theorem ignoresHidden_setA : IgnoresHidden (·.setA v) :=
  ignoresHidden_of_frame _ (fun _ _ => rfl) (by simp) (by simp)

theorem ignoresHidden_setB : IgnoresHidden (·.setB v) :=
  ignoresHidden_of_frame _ (fun _ _ => rfl) (by simp) (by simp)

theorem ignoresHidden_setC : IgnoresHidden (·.setC v) :=
  ignoresHidden_of_frame _ (fun _ _ => rfl) (by simp) (by simp)

theorem ignoresHidden_clearError : IgnoresHidden (·.clearError) :=
  ignoresHidden_of_frame _ (fun _ _ => rfl) (by simp) (by simp)

theorem ignoresHidden_mixRegisters : IgnoresHidden (·.mixRegisters config) := by
  refine ignoresHidden_of_frame _ (fun e b => ?_) (by simp) (by simp)
  have hwords : Engine.words { e with buf := b } = e.words := rfl
  dsimp only
  rw [Engine.mixRegisters_eq, Engine.mixRegisters_eq, hwords]
  rfl

theorem ignoresHidden_startOaat : IgnoresHidden (·.startOaat) :=
  ignoresHidden_of_frame _ (fun _ _ => rfl) (by simp) (by simp)

theorem ignoresHidden_absorbOaat : IgnoresHidden (·.absorbOaat byte) :=
  ignoresHidden_of_frame _ (fun _ _ => rfl) (by simp) (by simp)

theorem ignoresHidden_finishOaat : IgnoresHidden (·.finishOaat) :=
  ignoresHidden_of_frame _ (fun _ _ => rfl) (by simp) (by simp)

theorem ignoresHidden_startL2 : IgnoresHidden (·.startL2 seeded) :=
  ignoresHidden_of_frame _ (fun _ _ => rfl) (by simp) (by simp)

end FrameOperations

theorem ignoresHidden_recordError (code : ErrCode) : IgnoresHidden (·.recordError code) := by
  refine ignoresHidden_of_frame _ (fun e b => ?_) (by simp) (by simp)
  cases h : e.err <;> simp [Engine.recordError, h]

/-- An operation of one mode: the hidden bytes do not decide whether it runs. -/
theorem IgnoresHidden.inMode {g : Engine → Engine} (hg : IgnoresHidden g) (m : Mode) (code : ErrCode) :
    IgnoresHidden fun e => if e.mode = m then g e else e.recordError code := by
  intro e f h
  dsimp only
  rw [h.mode_eq]
  split
  · exact hg e f h
  · exact ignoresHidden_recordError code e f h

/-- A byte that is taken is a byte both buffers hold. -/
theorem SameButHidden.takeByte_buf_eq {e f : Engine} (h : SameButHidden e f) (byte : Byte) (i : Fin 12)
    (hi : i.val ≤ e.bufcnt.val) : (e.takeByte byte).buf[i] = (f.takeByte byte).buf[i] := by
  obtain ⟨b, rfl, hvalid⟩ := (sameButHidden_iff e f).1 h
  by_cases hlast : i.val = e.bufcnt.val
  · simp [hlast]
  · have hne : ¬ e.bufcnt.val = i.val := fun heq => hlast heq.symm
    simpa [Vector.getElem_set, hne] using hvalid i (by omega)

theorem ignoresHidden_absorbL2 (config : Config) (byte : Byte) : IgnoresHidden (·.absorbL2 config byte) := by
  intro e f h
  have hbuf := h.takeByte_buf_eq byte
  obtain ⟨b, rfl, -⟩ := (sameButHidden_iff e f).1 h
  dsimp only
  by_cases hlt : e.bufcnt.val + 1 < 12
  · rw [Engine.absorbL2_of_lt config byte e hlt, Engine.absorbL2_of_lt config byte { e with buf := b } hlt]
    exact ⟨rfl, fun i hi => hbuf i (Nat.le_of_lt_succ hi)⟩
  · rw [Engine.absorbL2_of_last config byte e hlt, Engine.absorbL2_of_last config byte { e with buf := b } hlt]
    have hblock : (Engine.takeByte byte { e with buf := b }).buf = (e.takeByte byte).buf :=
      Vector.ext fun i hi => (hbuf ⟨i, hi⟩ (by simp only; omega)).symm
    rw [hblock]
    exact ⟨rfl, fun i hi => absurd hi (Nat.not_lt_zero _)⟩

theorem ignoresHidden_finishL2 (config : Config) : IgnoresHidden (·.finishL2 config) := by
  intro e f h
  have htail := h.tail_eq
  obtain ⟨b, rfl, -⟩ := (sameButHidden_iff e f).1 h
  have hfinal : Engine.finalWords config { e with buf := b } = e.finalWords config := by
    unfold Engine.finalWords
    rw [htail]
    rfl
  refine (sameButHidden_iff _ _).2 ⟨b, ?_, fun i hi => absurd hi (Nat.not_lt_zero _)⟩
  dsimp only [Engine.finishL2]
  rw [hfinal]
  rfl

theorem ignoresHidden_afterCommand (config : Config) (i : Instr) : IgnoresHidden (afterCommand config i) := by
  cases i with
  | nop => exact fun _ _ h => h
  | oaatStart => exact ignoresHidden_startOaat
  | oaatByte byte => exact (ignoresHidden_absorbOaat byte).inMode .oaat .badSequence
  | oaatFinish => exact ignoresHidden_finishOaat.inMode .oaat .badSequence
  | l2Start seeded => exact ignoresHidden_startL2 seeded
  | l2Byte byte => exact (ignoresHidden_absorbL2 config byte).inMode .l2 .badSequence
  | l2Finish => exact (ignoresHidden_finishL2 config).inMode .l2 .badSequence
  | mix => exact (ignoresHidden_mixRegisters config).inMode .idle .badSequence
  | clrErr => exact ignoresHidden_clearError

theorem ignoresHidden_afterWord (config : Config) (v : Word) : IgnoresHidden (afterWord config v) := by
  intro e f h
  cases hd : decode v with
  | legal i =>
    rw [afterWord_of_decode hd, afterWord_of_decode hd]
    exact ignoresHidden_afterCommand config i e f h
  | illegal why =>
    rw [afterWord_of_illegal hd, afterWord_of_illegal hd]
    exact ignoresHidden_recordError .illegalCmd e f h

theorem ignoresHidden_afterWrite (config : Config) (off : Offset) (v : Word) :
    IgnoresHidden (afterWrite config off v) := by
  unfold afterWrite
  cases regAt off with
  | none => exact fun _ _ h => h
  | some name =>
    cases name with
    | cmd => exact ignoresHidden_afterWord config v
    | seed => exact ignoresHidden_setSeed v
    | a => exact (ignoresHidden_setA v).inMode .idle .regLocked
    | b => exact (ignoresHidden_setB v).inMode .idle .regLocked
    | c => exact (ignoresHidden_setC v).inMode .idle .regLocked
    | id | status | result | len | acc => exact fun _ _ h => h

theorem ignoresHidden_afterAccess (config : Config) (a : BusAccess) : IgnoresHidden (afterAccess config a) := by
  cases a with
  | read width off => exact fun _ _ h => h
  | write width off v => exact ignoresHidden_afterWrite config off v

theorem SameButHidden.answerTo_eq {e f : Engine} (h : SameButHidden e f) (config : Config) (a : BusAccess) :
    answerTo config a f = answerTo config a e := by
  cases a with
  | read width off => exact congrArg BusResponse.readData (h.regRead_eq config off)
  | write width off v => rfl

/-! ### Outcomes -/

theorem SameOutcome.refl (x : Outcome) : SameOutcome x x := by
  cases x with
  | next s => exact ⟨rfl, SameButHidden.refl s.engine⟩
  | fault r => rfl
  | refused r => rfl

/-- Which bus error an access meets does not depend on the state (20_memory.md R37). -/
theorem performAccess_fault_congr (a : BusAccess) (s t : State) (hs : s.needsReset = false)
    (ht : t.needsReset = false) (hw : a.wf = false) : performAccess a s = performAccess a t := by
  rw [performAccess_powered a s hs, performAccess_powered a t ht]
  cases a with
  | read width off | write width off v =>
    cases hf : accessFault width off with
    | none => simp_all [BusAccess.wf, accessFault_none_iff]
    | some r => simp only [hf]

theorem performAccess_sameOutcome (a : BusAccess) (s : State) (f : Engine) (h : SameButHidden s.engine f) :
    SameOutcome (performAccess a s) (performAccess a (s.withEngine f)) := by
  cases hr : s.needsReset with
  | true =>
    rw [performAccess_beforeReset a s hr, performAccess_beforeReset a (s.withEngine f) hr]
    exact SameOutcome.refl _
  | false =>
    cases hw : a.wf with
    | false =>
      rw [performAccess_fault_congr a (s.withEngine f) s hr hr hw]
      exact SameOutcome.refl _
    | true =>
      rw [performAccess_eq a s hr hw, performAccess_eq a (s.withEngine f) hr hw, State.withEngine_config,
        State.withEngine_engine, h.answerTo_eq]
      exact ⟨rfl, ignoresHidden_afterAccess s.config a s.engine f h⟩

theorem performEvent_sameOutcome (event : BusEvent) (s : State) (f : Engine) (h : SameButHidden s.engine f) :
    SameOutcome (performEvent event s) (performEvent event (s.withEngine f)) := by
  cases event with
  | access a => exact performAccess_sameOutcome a s f h
  | reset overlapping =>
    have hsame : resetEngine overlapping (s.withEngine f) = resetEngine overlapping s := by
      cases overlapping <;> rfl
    rw [performEvent, performEvent, hsame]
    exact SameOutcome.refl _
  | powerLoss => exact SameOutcome.refl (losePower s)

/-- Settles O53: a step is the next event, and no event's outcome depends on the hidden bytes. -/
theorem hiddenBytesReachNothing : Obligations.HiddenBytesReachNothing := by
  unfold Obligations.HiddenBytesReachNothing
  intro s t h
  obtain ⟨ht, hengine⟩ := h
  generalize t.engine = f at ht hengine
  obtain rfl : t = s.withEngine f := ht
  cases hp : s.pending with
  | nil =>
    rw [step_nil s hp, step_nil (s.withEngine f) hp]
    exact ⟨rfl, hengine⟩
  | cons event rest =>
    rw [step_cons s event rest hp, step_cons (s.withEngine f) event rest hp]
    exact performEvent_sameOutcome event (s.withPending rest) f hengine

end Sys2Proof.Machine
end

section
/-!
Sessions in a stream of accesses (41_oaat.md R85, 42_lookup2.md R100): the induction over a stream that carries a list
of commands is made once (`performAll_of_carries`), and an open lookup2 session is followed through it byte by byte
(10_state.md R18, 70_reset_and_hazards.md R141).
-/

namespace Sys2Proof.Machine

/-! ### Streams that carry commands -/

/-- A harmless access is allowed and at most writes `SEED`. -/
theorem harmless_access {a : BusAccess} (h : harmless (.access a) = true) (config : Config) (e : Engine) :
    a.wf = true ∧ ∃ v, afterAccess config a e = e.setSeed v := by
  cases a with
  | read width off => exact ⟨h, e.seed, rfl⟩
  | write width off v =>
    unfold harmless at h
    obtain ⟨hw, hreg⟩ := Bool.and_eq_true_iff.1 h
    refine ⟨hw, ?_⟩
    change ∃ u, afterWrite config off v e = e.setSeed u
    unfold afterWrite
    cases hat : regAt off with
    | none => exact ⟨e.seed, rfl⟩
    | some name =>
      rw [hat] at hreg
      cases name with
      | cmd =>
        obtain rfl : v = encode .nop := by simpa using hreg
        exact ⟨e.seed, afterWord_of_decode (decode_encode .nop) config e⟩
      | seed => exact ⟨v, rfl⟩
      | a | b | c => exact absurd hreg (by simp)
      | id | status | result | len | acc => exact ⟨e.seed, rfl⟩

theorem performEvent_harmless {event : BusEvent} (h : harmless event = true) (s : State) (hr : s.needsReset = false) :
    ∃ v r, performEvent event s = .next { s with engine := s.engine.setSeed v, response := r } := by
  cases event with
  | access a =>
    obtain ⟨hw, v, hv⟩ := harmless_access h s.config s.engine
    exact ⟨v, _, by rw [performEvent_access s a hr hw, hv]⟩
  | reset overlapping => exact absurd h (by simp [harmless])
  | powerLoss => exact absurd h (by simp [harmless])

theorem carries_nil {cs : List Instr} (h : carries [] cs) : cs = [] := by
  simpa [carries, eq_comm] using h

/-- The first event of a stream is harmless, or it is the first of the commands the stream carries. -/
theorem carries_cons {event : BusEvent} {rest : List BusEvent} {cs : List Instr} (h : carries (event :: rest) cs) :
    (harmless event = true ∧ carries rest cs) ∨
      ∃ i cs', cs = i :: cs' ∧ event = commandEvent i ∧ carries rest cs' := by
  unfold carries at h ⊢
  rw [List.filter_cons] at h
  split at h
  case isTrue =>
    obtain ⟨i, cs', rfl, hi, hrest⟩ := List.map_eq_cons_iff.1 h.symm
    exact .inr ⟨i, cs', rfl, hi.symm, hrest.symm⟩
  case isFalse hharmless => exact .inl ⟨by simpa using hharmless, h⟩

/-- The induction over a stream: a relation between the engine and the commands still to come, kept by every write of
`SEED` and by each command as it is taken from the list, leads to the end of the list. -/
theorem performAll_of_carries {config : Config} {P : List Instr → Engine → Prop}
    (hseed : ∀ cs e v, P cs e → P cs (e.setSeed v))
    (hcommand : ∀ i cs e, P (i :: cs) e → P cs (afterCommand config i e))
    (events : List BusEvent) (cs : List Instr) (s : State) (hconfig : s.config = config) (hr : s.needsReset = false)
    (hcarries : carries events cs) (hP : P cs s.engine) :
    ∃ t, performAll events s = .next t ∧ t.config = config ∧ t.needsReset = false ∧ P [] t.engine := by
  induction events generalizing cs s with
  | nil =>
    obtain rfl := carries_nil hcarries
    exact ⟨s, rfl, hconfig, hr, hP⟩
  | cons event rest ih =>
    obtain ⟨hharmless, hrest⟩ | ⟨i, cs', rfl, rfl, hrest⟩ := carries_cons hcarries
    · obtain ⟨v, r, hnext⟩ := performEvent_harmless hharmless s hr
      rw [performAll_cons event rest s _ hnext]
      exact ih cs _ hconfig hr hrest (hseed cs s.engine v hP)
    · rw [performAll_cons _ rest s _ (performEvent_commandEvent i s hr), hconfig]
      exact ih cs' _ rfl hr hrest (hcommand i cs' s.engine hP)

/-! ### The block loop -/

theorem blockLoop_of_length_lt (config : Config) (w : Words3) (m : List Byte) (h : m.length < 12) :
    blockLoop config w m = (w, m) := by
  unfold blockLoop
  split
  case h_1 => simp only [List.length_cons] at h; omega
  case h_2 => rfl

theorem blockLoop_block (config : Config) (w : Words3) (k : Vector Byte 12) (m : List Byte) :
    blockLoop config w (k.toList ++ m) = blockLoop config (blockStep config w k) m := by
  obtain ⟨⟨l⟩, hl⟩ := k
  match l, hl with
  | [_, _, _, _, _, _, _, _, _, _, _, _], _ => rfl

/-- Induction over an input by complete blocks. -/
theorem block_induction {P : List Byte → Prop} (hshort : ∀ m, m.length < 12 → P m)
    (hblock : ∀ (k : Vector Byte 12) (m : List Byte), P m → P (k.toList ++ m)) (m : List Byte) : P m := by
  induction hn : m.length using Nat.strong_induction_on generalizing m with
  | _ n ih =>
    by_cases hlt : m.length < 12
    · exact hshort m hlt
    · have hsplit := hblock ⟨⟨m.take 12⟩, by simp; omega⟩ (m.drop 12)
        (ih (m.length - 12) (by omega) (m.drop 12) List.length_drop)
      simpa using hsplit

theorem blockLoop_append (config : Config) (m n : List Byte) (w : Words3) :
    blockLoop config w (m ++ n) = blockLoop config (blockLoop config w m).1 ((blockLoop config w m).2 ++ n) := by
  induction m using block_induction generalizing w with
  | hshort m h => rw [blockLoop_of_length_lt config w m h]
  | hblock k m ih => rw [List.append_assoc, blockLoop_block, blockLoop_block, ih]

/-- What the loop leaves is the input past its complete blocks. -/
theorem blockLoop_tail (config : Config) (m : List Byte) (w : Words3) :
    (blockLoop config w m).2 = m.drop (12 * (m.length / 12)) := by
  induction m using block_induction generalizing w with
  | hshort m h => simp [blockLoop_of_length_lt config w m h, Nat.div_eq_of_lt h]
  | hblock k m ih =>
    have hlen : 12 * ((k.toList ++ m).length / 12) = k.toList.length + 12 * (m.length / 12) := by simp; omega
    rw [blockLoop_block, ih, hlen, List.drop_length_add_append]

/-! ### The buffered bytes -/

@[simp] theorem Engine.length_tail (e : Engine) : e.tail.length = e.bufcnt.val := by
  simp [Engine.tail]

theorem Engine.tail_eq_nil {e : Engine} (h : e.bufcnt = 0) : e.tail = [] := by
  simp [Engine.tail, h]

theorem Engine.buf_eq_tail_getD (e : Engine) (i : Fin 12) (h : i.val < e.bufcnt.val) :
    e.buf[i] = e.tail.getD i.val 0 := by
  simp [Engine.tail, h]

/-- The buffered bytes and the byte just stored after them. -/
theorem Engine.take_takeByte_buf (e : Engine) (byte : Byte) :
    (e.takeByte byte).buf.toList.take (e.bufcnt.val + 1) = e.tail ++ [byte] := by
  rw [List.take_succ_eq_append_getElem (by simp)]
  simp [Engine.tail, Vector.toList_set, List.take_set_of_le]

theorem Engine.absorbL2_tail_of_lt (config : Config) (byte : Byte) (e : Engine) (h : e.bufcnt.val + 1 < 12) :
    (e.absorbL2 config byte).tail = e.tail ++ [byte] := by
  rw [e.absorbL2_of_lt config byte h]
  exact e.take_takeByte_buf byte

/-- An accepted byte runs the block loop one byte further. -/
theorem Engine.absorbL2_blockLoop (config : Config) (byte : Byte) (e : Engine) :
    blockLoop config e.words (e.tail ++ [byte]) = ((e.absorbL2 config byte).words, (e.absorbL2 config byte).tail) := by
  by_cases h : e.bufcnt.val + 1 < 12
  · rw [Engine.absorbL2_words_of_lt config byte e h, Engine.absorbL2_tail_of_lt config byte e h]
    exact blockLoop_of_length_lt config e.words _ (by simpa using h)
  · have hfull : e.tail ++ [byte] = (e.takeByte byte).buf.toList ++ [] := by
      rw [← e.take_takeByte_buf byte, List.append_nil, List.take_of_length_le (by simp; omega)]
    rw [hfull, blockLoop_block, blockLoop_of_length_lt _ _ _ (by simp), Engine.absorbL2_of_last config byte e h]
    rfl

/-! ### An open lookup2 session -/

/-- A lookup2 session that started from the words `w`, with `RESULT` at `result`, and has taken the bytes of `m`. -/
structure L2Open (config : Config) (w : Words3) (result : Word) (m : List Byte) (e : Engine) : Prop where
  mode : e.mode = .l2
  looped : blockLoop config w m = (e.words, e.tail)
  result : e.result = result
  done : e.done = false

section L2Open
variable {config : Config} {w : Words3} {result : Word} {m : List Byte} {e : Engine}

theorem l2Open_startL2 (seeded : Bool) (e : Engine) :
    L2Open config (startWords (seedOperand seeded e.seed)) e.result [] (e.startL2 seeded) where
  mode := rfl
  looped := by rw [Engine.tail_eq_nil (e.startL2_bufcnt seeded)]; rfl
  result := rfl
  done := rfl

theorem L2Open.setSeed (h : L2Open config w result m e) (v : Word) : L2Open config w result m (e.setSeed v) :=
  ⟨h.mode, h.looped, h.result, h.done⟩

theorem L2Open.absorbL2 (h : L2Open config w result m e) (byte : Byte) :
    L2Open config w result (m ++ [byte]) (e.absorbL2 config byte) where
  mode := by simp [h.mode]
  looped := by rw [blockLoop_append, h.looped, Engine.absorbL2_blockLoop]
  result := by simp [h.result]
  done := by simp [h.done]

theorem L2Open.tail_eq (h : L2Open config w result m e) : e.tail = m.drop (12 * (m.length / 12)) := by
  rw [← blockLoop_tail config m w, h.looped]

theorem L2Open.bufcnt_eq (h : L2Open config w result m e) : e.bufcnt.val = m.length % 12 := by
  rw [← e.length_tail, h.tail_eq, List.length_drop]
  omega

theorem L2Open.buf_eq (h : L2Open config w result m e) (i : Fin 12) (hi : i.val < m.length % 12) :
    e.buf[i] = m.getD (12 * (m.length / 12) + i.val) 0 := by
  rw [e.buf_eq_tail_getD i (h.bufcnt_eq ▸ hi), h.tail_eq]
  simp

/-- An open session takes the bytes that a stream carries to it. -/
theorem L2Open.performAll {s : State} (h : L2Open s.config w result [] s.engine) (hr : s.needsReset = false)
    {input : List BusEvent} (hcarries : carries input (m.map .l2Byte)) :
    ∃ t, performAll input s = .next t ∧ t.config = s.config ∧ t.needsReset = false ∧
      L2Open s.config w result m t.engine := by
  have hkept := performAll_of_carries (config := s.config)
    (P := fun cs e => ∃ taken left, m = taken ++ left ∧ cs = left.map .l2Byte ∧ L2Open s.config w result taken e)
    (fun cs e v ⟨taken, left, hm, hcs, hopen⟩ => ⟨taken, left, hm, hcs, hopen.setSeed v⟩)
    ?command input (m.map .l2Byte) s rfl hr hcarries ⟨[], m, rfl, rfl, h⟩
  case command =>
    rintro i cs e ⟨taken, left, hm, hcs, hopen⟩
    obtain ⟨byte, left', rfl, rfl, rfl⟩ := List.map_eq_cons_iff.1 hcs.symm
    refine ⟨taken ++ [byte], left', by simp [hm], rfl, ?_⟩
    simpa [afterCommand, hopen.mode] using hopen.absorbL2 byte
  obtain ⟨t, hrun, hconfig, hreset, taken, left, rfl, hleft, hopen⟩ := hkept
  obtain rfl : left = [] := List.map_eq_nil_iff.1 hleft.symm
  exact ⟨t, hrun, hconfig, hreset, by simpa using hopen⟩

end L2Open

/-- Settles O56: `L2_START` opens a session that has taken nothing, and the stream carries the bytes of `m` to it. -/
theorem openLookup2SessionHoldsItsTail : Obligations.OpenLookup2SessionHoldsItsTail := by
  unfold Obligations.OpenLookup2SessionHoldsItsTail
  intro s m seeded input hr hcarries
  rw [performAll_cons _ input s _ (performEvent_commandEvent (.l2Start seeded) s hr)]
  obtain ⟨t, hrun, -, -, hopen⟩ :=
    L2Open.performAll (s := { s with engine := s.engine.startL2 seeded, response := some .writeDone })
      (l2Open_startL2 seeded s.engine) hr hcarries
  exact ⟨t, hrun, hopen.mode, (congrArg Prod.fst hopen.looped).symm, hopen.bufcnt_eq, hopen.buf_eq, hopen.result,
    hopen.done⟩

end Sys2Proof.Machine
end

section
/-!
The register window and the stream of accesses (20_memory.md): what each register reads as and what a write of it does
(R39 to R44), where the window stands (R35, R45), and that a step performs the next access and nothing else (R50).
-/

namespace Sys2Proof.Machine

/-! ### The order of the stream -/

/-- The outcome with another stream of events in the state it answers. -/
def outcomeWithPending (evs : List BusEvent) : Outcome → Outcome
  | .next t => .next (t.withPending evs)
  | .fault r => .fault r
  | .refused r => .refused r

/-- No access reads or changes the stream. -/
theorem performAccess_withPending (a : BusAccess) (s : State) (evs : List BusEvent) :
    performAccess a (s.withPending evs) = outcomeWithPending evs (performAccess a s) := by
  cases hr : s.needsReset with
  | true => rw [performAccess_beforeReset a s hr, performAccess_beforeReset a (s.withPending evs) hr]; rfl
  | false =>
    cases hw : a.wf with
    | true => rw [performAccess_eq a s hr hw, performAccess_eq a (s.withPending evs) hr hw]; rfl
    | false =>
      rw [performAccess_fault_congr a (s.withPending evs) s hr hr hw]
      obtain ⟨r, hfault⟩ := performAccess_fault a s hr hw
      rw [hfault]; rfl

/-- No event reads or changes the stream behind it. -/
theorem performEvent_withPending (event : BusEvent) (s : State) (evs : List BusEvent) :
    performEvent event (s.withPending evs) = outcomeWithPending evs (performEvent event s) := by
  cases event with
  | access a => exact performAccess_withPending a s evs
  | reset overlapping => cases overlapping <;> rfl
  | powerLoss => rfl

/-- Settles O11, by induction on the events: the step and `performAll` perform the same event on states that differ in
their streams only, and what it answers differs in the stream only. -/
theorem stepsFollowTheStreamInOrder : Obligations.StepsFollowTheStreamInOrder := by
  unfold Obligations.StepsFollowTheStreamInOrder
  intro events rest s hp
  induction events generalizing s with
  | nil =>
    obtain rfl : s.pending = rest := hp
    rfl
  | cons event events ih =>
    have hstep : step s = outcomeWithPending (events ++ rest) (performEvent event s) := by
      rw [step_cons s event (events ++ rest) hp, performEvent_withPending]
    have hperform : performEvent event { s with pending := rest } = outcomeWithPending rest (performEvent event s) :=
      performEvent_withPending event s rest
    rw [List.length_cons, runSteps, performAll, hstep, hperform]
    cases performEvent event s with
    | next t => exact ih (t.withPending (events ++ rest)) rfl
    | fault r => rfl
    | refused r => rfl

/-! ### Where the window stands -/

theorem windowOffset_of_mem (off : Offset) : windowOffset (Config.engineBase + off.toNat) = some off := by
  have hdiv : (Config.engineBase + off.toNat) / 64 = Config.engineWindow := by unfold Config.engineBase; omega
  have hmod : (Config.engineBase + off.toNat) % 64 = off.toNat := by unfold Config.engineBase; omega
  rw [windowOffset, if_pos hdiv, hmod, BitVec.ofNat_toNat, BitVec.setWidth_eq]

theorem windowOffset_of_outside (addr : Nat) (h : addr < Config.engineBase ∨ Config.engineBase + 64 ≤ addr) :
    windowOffset addr = none := by
  have hdiv : addr / 64 ≠ Config.engineWindow := by unfold Config.engineBase at h; omega
  exact if_neg hdiv

/-- The four byte offsets of a register: clearing bits 1:0 gives its offset, and they number its bytes. -/
theorem byteOffset_of_aligned : ∀ off : Offset, off.toNat % 4 = 0 → ∀ k : Fin 4,
    (off + BitVec.ofNat 6 k) &&& 0x3C = off ∧ (off + BitVec.ofNat 6 k).toNat % 4 = k := by
  decide

theorem windowByte_add (config : Config) (e : Engine) (off : Offset) (h : off.toNat % 4 = 0) (k : Fin 4) :
    windowByte config e (off + BitVec.ofNat 6 k) = (regRead config e off).extractLsb' (8 * k) 8 := by
  obtain ⟨hregister, hbyte⟩ := byteOffset_of_aligned off h k
  rw [windowByte, hregister, hbyte]

theorem word_eq_append_bytes (v : Word) :
    v = v.extractLsb' 24 8 ++ v.extractLsb' 16 8 ++ v.extractLsb' 8 8 ++ v.extractLsb' 0 8 := by
  symm
  calc v.extractLsb' 24 8 ++ v.extractLsb' 16 8 ++ v.extractLsb' 8 8 ++ v.extractLsb' 0 8
      = v.extractLsb' 16 16 ++ v.extractLsb' 8 8 ++ v.extractLsb' 0 8 := by
        rw [BitVec.extractLsb'_append_extractLsb'_eq_extractLsb' (by rfl)]
    _ = v.extractLsb' 8 24 ++ v.extractLsb' 0 8 := by
        rw [BitVec.extractLsb'_append_extractLsb'_eq_extractLsb' (by rfl)]
    _ = v := BitVec.extractLsb'_append_extractLsb'

/-- Settles O58: an address is `ENGINE_BASE` plus an offset below 64, and the four bytes of a register are the bytes of
its word. -/
theorem windowStandsAtItsBase : Obligations.WindowStandsAtItsBase := by
  unfold Obligations.WindowStandsAtItsBase
  refine ⟨Nat.mul_mod_right 64 Config.engineWindow, windowOffset_of_mem, windowOffset_of_outside,
    fun config e off h => ?bytes⟩
  case bytes =>
    have h0 : windowByte config e off = (regRead config e off).extractLsb' 0 8 := by
      simpa using windowByte_add config e off h 0
    have h1 : windowByte config e (off + 1) = (regRead config e off).extractLsb' 8 8 := windowByte_add config e off h 1
    have h2 : windowByte config e (off + 2) = (regRead config e off).extractLsb' 16 8 := windowByte_add config e off h 2
    have h3 : windowByte config e (off + 3) = (regRead config e off).extractLsb' 24 8 := windowByte_add config e off h 3
    rw [h0, h1, h2, h3]
    exact word_eq_append_bytes _

/-! ### One step of the stream -/

theorem wf_read_of_aligned {off : Offset} (h : off.toNat % 4 = 0) : (BusAccess.read .w32 off).wf = true := by
  simp [BusAccess.wf, accessWf, h]

theorem wf_write_of_aligned {off : Offset} (h : off.toNat % 4 = 0) (v : Word) :
    (BusAccess.write .w32 off v).wf = true :=
  wf_read_of_aligned h

/-- Settles O7: the write of `v` to `CMD` is an allowed access, and its effect is that of the command `i`. -/
theorem stepRunsTheDecodedCommand : Obligations.StepRunsTheDecodedCommand := by
  unfold Obligations.StepRunsTheDecodedCommand
  intro s v i rest hr hp hdecode
  have heffect : afterAccess s.config (cmdWrite v) s.engine = afterCommand s.config i s.engine :=
    afterWord_of_decode hdecode s.config s.engine
  rw [step_access s (cmdWrite v) rest hr hp rfl, heffect, exec_eq]
  rfl

/-- `withFetchWord` puts the write of the command before the host's other events. -/
theorem withFetchWord_encode (s : State) (i : Instr) :
    s.withFetchWord 32 (encode i).toNat = s.withPending (commandEvent i :: s.pending) := by
  rw [State.withFetchWord, Nat.mod_eq_of_lt (encode i).isLt, BitVec.ofNat_toNat, BitVec.setWidth_eq]
  rfl

/-- Settles O8: the placed word decodes to the command (30_encoding.md R62), so the step runs it. -/
theorem placedCommandIsRunNext : Obligations.PlacedCommandIsRunNext := by
  unfold Obligations.PlacedCommandIsRunNext
  intro s i hr
  rw [withFetchWord_encode]
  exact stepRunsTheDecodedCommand (s.withPending (commandEvent i :: s.pending)) (encode i) i s.pending hr rfl
    (decode_encode i)

/-- Settles O10: both accesses are allowed, and a read leaves the engine as it is. -/
theorem stepPerformsTheNextAccess : Obligations.StepPerformsTheNextAccess := by
  unfold Obligations.StepPerformsTheNextAccess
  intro s off v rest hr halign
  refine ⟨fun hp => ?read, fun hp => ⟨_, regWrite_eq off v { s with pending := rest }, ?write⟩⟩
  case read => exact step_access s (.read .w32 off) rest hr hp (wf_read_of_aligned halign)
  case write => exact step_access s (.write .w32 off v) rest hr hp (wf_write_of_aligned halign v)

/-! ### Reads -/

theorem regAt_regOffset (name : RegName) : regAt (regOffset name) = some name := by
  cases name <;> rfl

/-- No named register stands at a reserved offset (20_memory.md R38). -/
theorem ne_regOffset_of_regAt_eq_none {off : Offset} (h : regAt off = none) (name : RegName) :
    off ≠ regOffset name := by
  rintro rfl
  rw [regAt_regOffset] at h
  exact absurd h (by simp)

/-- The `STATUS` word with its two configuration bits as conditions on the configuration (10_state.md R27). -/
theorem statusWord_eq_ite (config : Config) (e : Engine) :
    statusWord config e =
      (0 : BitVec 18) ++ (if config.mixBShift = .left then 1 else 0 : BitVec 1) ++
        (if config.l2FoldMode = .literal then 1 else 0 : BitVec 1) ++ BitVec.ofNat 4 e.bufcnt.val ++
        errorCode e.errcode ++ BitVec.ofBool e.err ++ BitVec.ofBool e.done ++ modeCode e.mode := by
  have hmix : mixBLeftBit config = if config.mixBShift = .left then 1 else 0 := by
    unfold mixBLeftBit; cases config.mixBShift <;> rfl
  have hfold : foldLiteralBit config = if config.l2FoldMode = .literal then 1 else 0 := by
    unfold foldLiteralBit; cases config.l2FoldMode <;> rfl
  rw [statusWord, hmix, hfold]

/-- Settles O12: a named register reads as listed at its own offset, and every other offset reads 0. -/
theorem readsReturnTheListedValues : Obligations.ReadsReturnTheListedValues := by
  unfold Obligations.ReadsReturnTheListedValues
  intro config e off _
  cases hat : regAt off with
  | some name =>
    rw [regRead_of_regAt hat, regAt_eq_some off name hat]
    cases name with
    | status => exact statusWord_eq_ite config e
    | _ => rfl
  | none =>
    have hne := ne_regOffset_of_regAt_eq_none hat
    rw [regRead_reserved hat]
    symm
    exact (if_neg (hne .id)).trans <| (if_neg (hne .cmd)).trans <| (if_neg (hne .status)).trans <|
      (if_neg (hne .seed)).trans <| (if_neg (hne .result)).trans <| (if_neg (hne .len)).trans <|
      (if_neg (hne .acc)).trans <| (if_neg (hne .a)).trans <| (if_neg (hne .b)).trans (if_neg (hne .c))

/-! ### Writes -/

theorem regWrite_of_regAt_readOnly {off : Offset} {name : RegName} (h : regAt off = some name)
    (hread : regAccess name = .readOnly) (v : Word) (s : State) : regWrite off v s = .next s := by
  rw [regWrite, h]
  cases name with
  | id | status | result | len | acc => rfl
  | cmd | seed | a | b | c => exact absurd hread (by decide)

theorem regWrite_reserved {off : Offset} (h : regAt off = none) (v : Word) (s : State) :
    regWrite off v s = .next s := by
  rw [regWrite, h]

/-- The registers end at 0x27 (20_memory.md R38). -/
theorem regAt_eq_none_of_le {off : Offset} (h : 0x28 ≤ off.toNat) : regAt off = none := by
  cases hat : regAt off with
  | none => rfl
  | some name =>
    rw [regAt_eq_some off name hat] at h
    cases name <;> exact absurd h (by decide)

theorem writeInIdle_of_idle (effect : Engine → Engine) (s : State) (h : s.engine.mode = .idle) :
    writeInIdle effect s = .next (s.withEngine (effect s.engine)) := by
  rw [writeInIdle_eq, if_pos h]

theorem writeInIdle_locked (effect : Engine → Engine) (s : State) (h : s.engine.mode ≠ .idle) :
    writeInIdle effect s = .next (errorRecorded .regLocked s) := by
  rw [writeInIdle_eq, if_neg h, withEngine_recordError]

/-- Settles O14: the write of `SEED` has its effect with no look at the mode. -/
theorem seedWriteSetsSeedOnly : Obligations.SeedWriteSetsSeedOnly := by
  unfold Obligations.SeedWriteSetsSeedOnly
  intro s v
  exact runEffect_eq (fun e => e.setSeed v) s

/-- Settles O15: the three writes are `writeInIdle`. -/
theorem wordWritesNeedIdle : Obligations.WordWritesNeedIdle := by
  unfold Obligations.WordWritesNeedIdle
  intro s v
  refine ⟨fun hidle => ⟨?a, ?b, ?c⟩, fun hlocked off hoff => ?locked⟩
  case a => exact writeInIdle_of_idle (fun e => e.setA v) s hidle
  case b => exact writeInIdle_of_idle (fun e => e.setB v) s hidle
  case c => exact writeInIdle_of_idle (fun e => e.setC v) s hidle
  case locked =>
    obtain rfl | rfl | rfl : off = 0x1C ∨ off = 0x20 ∨ off = 0x24 := by simpa using hoff
    · exact writeInIdle_locked (fun e => e.setA v) s hlocked
    · exact writeInIdle_locked (fun e => e.setB v) s hlocked
    · exact writeInIdle_locked (fun e => e.setC v) s hlocked

/-- Settles O16: the five offsets are those of the read-only registers, and from 0x28 on there is none. -/
theorem readOnlyAndReservedWritesAreIgnored : Obligations.ReadOnlyAndReservedWritesAreIgnored := by
  unfold Obligations.ReadOnlyAndReservedWritesAreIgnored
  rintro s off v (hreadOnly | ⟨hreserved, -⟩)
  · have hname : ∃ name, regAt off = some name ∧ regAccess name = .readOnly := by
      obtain rfl | rfl | rfl | rfl | rfl :
        off = 0x00 ∨ off = 0x08 ∨ off = 0x10 ∨ off = 0x14 ∨ off = 0x18 := by simpa using hreadOnly
      · exact ⟨.id, rfl, rfl⟩
      · exact ⟨.status, rfl, rfl⟩
      · exact ⟨.result, rfl, rfl⟩
      · exact ⟨.len, rfl, rfl⟩
      · exact ⟨.acc, rfl, rfl⟩
    obtain ⟨name, hat, hread⟩ := hname
    exact regWrite_of_regAt_readOnly hat hread v s
  · exact regWrite_reserved (regAt_eq_none_of_le hreserved) v s

end Sys2Proof.Machine
end

section
/-!
The encoding (30_encoding.md R56 to R65): a word decodes to a command exactly when it is that command's word, and the
opcode map, the count of the legal words and the illegal words are read off the words of the nine commands.
-/

namespace Sys2Proof

theorem Instr.wf_eq_true (i : Instr) : i.wf = true := by cases i <;> rfl

theorem decode_eq_legal_iff {v : Word} {i : Instr} : decode v = .legal i ↔ encode i = v :=
  ⟨encode_eq_of_decode, fun h => h ▸ decode_encode i⟩

theorem encode_injective : Function.Injective encode := fun i j h => by
  have hdecode : Decoded.legal i = .legal j := by rw [← decode_encode i, h, decode_encode j]
  exact Decoded.legal.inj hdecode

/-- Settles O1: the word of a command decodes to it, and a legal word is the word of its command. -/
theorem decodeAndEncodeAreInverse : Obligations.DecodeAndEncodeAreInverse := by
  unfold Obligations.DecodeAndEncodeAreInverse
  exact ⟨fun i _ => decode_encode i, fun v i h => ⟨i.wf_eq_true, encode_eq_of_decode h⟩⟩

/-! ### The opcode map (R61) -/

/-- A mask over the head of a word leaves the tail free. -/
theorem exists_append_eq_iff {n k : Nat} (head : BitVec n) (v : BitVec (n + k)) :
    (∃ tail : BitVec k, head ++ tail = v) ↔ v &&& (BitVec.allOnes n ++ 0#k) = head ++ 0#k := by
  have masked (h : BitVec n) (t : BitVec k) : (h ++ t) &&& (BitVec.allOnes n ++ 0#k) = h ++ 0#k := by
    rw [BitVec.and_append, BitVec.and_allOnes, BitVec.and_zero]
  constructor
  · rintro ⟨tail, rfl⟩
    exact masked head tail
  · intro h
    have hsplit : v.extractLsb' k n ++ v.extractLsb' 0 k = v := BitVec.extractLsb'_append_extractLsb'
    have hhead : v.extractLsb' k n = head := by
      rwa [← hsplit, masked, BitVec.append_left_inj] at h
    exact ⟨v.extractLsb' 0 k, by rw [← hhead, hsplit]⟩

theorem decode_eq_legal_iff_and_eq (v : Word) (i : Instr) : decode v = .legal i ↔ v &&& 0xFFFFFFFF = encode i := by
  have hmask : v &&& 0xFFFFFFFF = v := BitVec.and_allOnes
  rw [decode_eq_legal_iff, hmask, eq_comm]

theorem exists_formatB_eq_iff (v : Word) (opc : BitVec 8) :
    (∃ byte, formatB opc byte = v) ↔ v &&& 0xFFFFFF00 = formatB opc 0 :=
  exists_append_eq_iff (n := 24) (k := 8) (opc ++ (0 : BitVec 16)) v

theorem exists_formatS_eq_iff (v : Word) (opc : BitVec 8) :
    (∃ s, formatS opc s = v) ↔ v &&& 0xFFFFFFFE = formatS opc false := by
  have hbit (P : BitVec 1 → Prop) : (∃ s, P (BitVec.ofBool s)) ↔ ∃ b, P b :=
    ⟨fun ⟨s, h⟩ => ⟨_, h⟩, fun ⟨b, h⟩ => ⟨b.getLsbD 0, by
      rwa [← BitVec.setWidth_one, BitVec.setWidth_eq]⟩⟩
  exact (hbit _).trans (exists_append_eq_iff (n := 31) (k := 1) (opc ++ (0 : BitVec 23)) v)

/-- Settles O2: the row of a format masks exactly the bits that no operand of the format takes. -/
theorem wordsMatchTheOpcodeMap : Obligations.WordsMatchTheOpcodeMap := by
  unfold Obligations.WordsMatchTheOpcodeMap
  intro v
  refine ⟨?nop, ?oaatStart, ?oaatByte, ?oaatFinish, ?l2Start, ?l2Byte, ?l2Finish, ?mix, ?clrErr⟩
  case oaatByte =>
    simp only [decode_eq_legal_iff]
    exact exists_formatB_eq_iff v 0x02
  case l2Byte =>
    simp only [decode_eq_legal_iff]
    exact exists_formatB_eq_iff v 0x12
  case l2Start =>
    simp only [decode_eq_legal_iff]
    exact exists_formatS_eq_iff v 0x11
  case nop | oaatStart | oaatFinish | l2Finish | mix | clrErr => exact decode_eq_legal_iff_and_eq v _

/-! ### The legal words (R65) -/

def allBytes : List Byte := (List.finRange 256).map BitVec.ofFin

theorem mem_allBytes (byte : Byte) : byte ∈ allBytes :=
  List.mem_map.2 ⟨byte.toFin, List.mem_finRange _, rfl⟩

theorem nodup_allBytes : allBytes.Nodup :=
  (List.nodup_finRange 256).map fun _ _ h => BitVec.ofFin.inj h

@[simp] theorem length_allBytes : allBytes.length = 256 := by simp [allBytes]

/-- Every command, each once. -/
def allInstrs : List Instr :=
  [.nop, .oaatStart, .oaatFinish, .l2Finish, .mix, .clrErr, .l2Start false, .l2Start true] ++
    (allBytes.map .oaatByte ++ allBytes.map .l2Byte)

theorem mem_allInstrs (i : Instr) : i ∈ allInstrs := by
  cases i with
  | l2Start s => cases s <;> simp [allInstrs]
  | oaatByte byte | l2Byte byte => simp [allInstrs, mem_allBytes]
  | _ => simp [allInstrs]

theorem length_allInstrs : allInstrs.length = 520 := by simp [allInstrs]

theorem nodup_allInstrs : allInstrs.Nodup := by
  have hoaat : (allBytes.map Instr.oaatByte).Nodup := nodup_allBytes.map fun _ _ h => Instr.oaatByte.inj h
  have hl2 : (allBytes.map Instr.l2Byte).Nodup := nodup_allBytes.map fun _ _ h => Instr.l2Byte.inj h
  have hbytes : (allBytes.map Instr.oaatByte ++ allBytes.map Instr.l2Byte).Nodup :=
    hoaat.append hl2 (by simp [List.disjoint_left])
  unfold allInstrs
  exact List.Nodup.append (by decide) hbytes (by simp)

/-- Settles O3: the legal words are the words of the 520 commands, and no two commands share one. -/
theorem exactlyFiveHundredTwentyLegalWords : Obligations.ExactlyFiveHundredTwentyLegalWords := by
  unfold Obligations.ExactlyFiveHundredTwentyLegalWords
  refine ⟨allInstrs.map encode, nodup_allInstrs.map encode_injective, ?length, fun v => ?mem⟩
  case length => rw [List.length_map, length_allInstrs]
  case mem => simp [decode_eq_legal_iff, mem_allInstrs]

/-! ### The illegal words (R63, R64) -/

theorem decode_illegal_of_forall_ne {v : Word} (h : ∀ i, encode i ≠ v) : ∃ why, decode v = .illegal why := by
  cases hv : decode v with
  | legal i => exact absurd (encode_eq_of_decode hv) (h i)
  | illegal why => exact ⟨why, rfl⟩

theorem encodingMatchesRow : ∀ i : Instr, Laws.EncodingMatchesRow.Statement i
  | .nop => Laws.EncodingMatchesRow.nop
  | .oaatStart => Laws.EncodingMatchesRow.oaatStart
  | .oaatByte byte => Laws.EncodingMatchesRow.oaatByte byte
  | .oaatFinish => Laws.EncodingMatchesRow.oaatFinish
  | .l2Start seeded => Laws.EncodingMatchesRow.l2Start seeded
  | .l2Byte byte => Laws.EncodingMatchesRow.l2Byte byte
  | .l2Finish => Laws.EncodingMatchesRow.l2Finish
  | .mix => Laws.EncodingMatchesRow.mix
  | .clrErr => Laws.EncodingMatchesRow.clrErr

theorem opcField_encode (i : Instr) : opcField (encode i) = opcodeOf i := by
  obtain ⟨-, hopc, -⟩ := encodingMatchesRow i
  exact hopc

/-- The opcodes of the opcode map. -/
theorem opcodeOf_mem (i : Instr) :
    opcodeOf i ∈ ([0x00, 0x01, 0x02, 0x03, 0x11, 0x12, 0x13, 0x20, 0x30] : List (BitVec 8)) := by
  cases i <;> simp [opcodeOf]

theorem reservedN_formatN (opc : BitVec 8) : reservedN (formatN opc) = 0 := BitVec.extractLsb'_append_eq_right

theorem reservedB_formatB (opc : BitVec 8) (byte : Byte) : reservedB (formatB opc byte) = 0 := by
  calc reservedB (formatB opc byte) = (opc ++ (0 : BitVec 16)).extractLsb' 0 16 :=
        BitVec.extractLsb'_append_eq_of_le (by decide)
    _ = 0 := BitVec.extractLsb'_append_eq_right

theorem reservedS_formatS (opc : BitVec 8) (s : Bool) : reservedS (formatS opc s) = 0 := by
  calc reservedS (formatS opc s) = (opc ++ (0 : BitVec 23)).extractLsb' 0 23 :=
        BitVec.extractLsb'_append_eq_of_le (by decide)
    _ = 0 := BitVec.extractLsb'_append_eq_right

theorem reservedN_encode {i : Instr}
    (h : opcodeOf i ∈ ([0x00, 0x01, 0x03, 0x13, 0x20, 0x30] : List (BitVec 8))) : reservedN (encode i) = 0 := by
  cases i with
  | oaatByte | l2Start | l2Byte => simp [opcodeOf] at h
  | _ => exact reservedN_formatN _

theorem reservedB_encode {i : Instr} (h : opcodeOf i ∈ ([0x02, 0x12] : List (BitVec 8))) :
    reservedB (encode i) = 0 := by
  cases i with
  | oaatByte byte | l2Byte byte => exact reservedB_formatB _ byte
  | _ => simp [opcodeOf] at h

theorem reservedS_encode {i : Instr} (h : opcodeOf i = 0x11) : reservedS (encode i) = 0 := by
  cases i with
  | l2Start s => exact reservedS_formatS _ s
  | _ => simp [opcodeOf] at h

/-- An illegal word records `ILLEGAL_CMD` (60_exceptions.md R115). -/
theorem execute_of_illegal {v : Word} {why : IllegalWord} (h : decode v = .illegal why) (s : Machine.State) :
    Machine.execute v s = .next (Machine.errorRecorded .illegalCmd s) := by
  rw [Machine.execute_eq, Machine.afterWord_of_illegal h, Machine.withEngine_recordError]

/-- Settles O4: the word of a command has the command's `OPC`, and 0 in every bit the format of that `OPC` reserves. -/
theorem illegalWordsOnlyRecordIllegalCmd : Obligations.IllegalWordsOnlyRecordIllegalCmd := by
  unfold Obligations.IllegalWordsOnlyRecordIllegalCmd
  intro v s hv
  have hne : ∀ i, encode i ≠ v := by
    rintro i rfl
    have hopc : (encode i).extractLsb' 24 8 = opcodeOf i := opcField_encode i
    rw [hopc] at hv
    obtain hunassigned | ⟨hN, hres⟩ | ⟨hB, hres⟩ | ⟨hS, hres⟩ := hv
    · exact hunassigned (opcodeOf_mem i)
    · exact hres (reservedN_encode hN)
    · exact hres (reservedB_encode hB)
    · exact hres (reservedS_encode hS)
  obtain ⟨why, hwhy⟩ := decode_illegal_of_forall_ne hne
  exact ⟨⟨why, hwhy⟩, execute_of_illegal hwhy s⟩

/-- Settles O5: eight of the words are the words of commands; of the other two, the first has bit 8 set, which format B
reserves, and the second an `OPC` of no row. -/
theorem listedWordsDecodeAsListed : Obligations.ListedWordsDecodeAsListed := by
  unfold Obligations.ListedWordsDecodeAsListed
  exact ⟨decode_encode .nop, decode_encode .oaatStart, decode_encode (.oaatByte 0x80), decode_encode (.l2Start true),
    decode_encode (.l2Start false), decode_encode (.l2Byte 0xFF), decode_encode .mix, decode_encode .clrErr,
    by decide, by decide⟩

end Sys2Proof
end

section
/-!
The assembler and the disassembler (30_encoding.md R66 to R70): a string pseudo-instruction expands to a session, and
the disassembly of a legal word is read back as the line of its command.
-/

namespace Sys2Proof.Machine

theorem assemble_of_wf {line : AsmLine} (h : line.wf = true) : assemble line = some (expand line) := if_pos h

/-! ### The string pseudo-instructions (R68) -/

theorem oaatAccesses_eq (m : List Byte) : oaatAccesses m = (oaatSession m).map writeCommand := by
  simp [oaatAccesses, oaatSession, Function.comp_def]

theorem l2Accesses_unseeded (m : List Byte) :
    l2Accesses m none = (.l2Start false :: l2Input m).map writeCommand := by
  simp [l2Accesses, l2Input, Function.comp_def]

theorem l2Accesses_seeded (m : List Byte) (seed : Word) :
    l2Accesses m (some seed) = writeNamed .seed seed :: (.l2Start true :: l2Input m).map writeCommand := by
  simp [l2Accesses, l2Input, Function.comp_def]

theorem map_access_map_writeCommand (cs : List Instr) :
    (cs.map writeCommand).map BusEvent.access = cs.map commandEvent := List.map_map

/-- Settles O60: each of the three lines is well formed, and expands to the command list of its session. -/
theorem stringPseudoExpandsToASession : Obligations.StringPseudoExpandsToASession := by
  unfold Obligations.StringPseudoExpandsToASession
  refine fun text => ⟨?oaat, ?unseeded, fun seed hlow hhigh => ?seeded⟩
  case oaat =>
    rw [assemble_of_wf rfl, expand, oaatAccesses_eq, Option.map_some, map_access_map_writeCommand]
  case unseeded =>
    rw [assemble_of_wf rfl, expand, Option.map_none, l2Accesses_unseeded, Option.map_some, map_access_map_writeCommand]
  case seeded =>
    have hwf : (AsmLine.l2Str text (some seed)).wf = true := by simp [AsmLine.wf, imm32Wf, hlow, hhigh]
    rw [assemble_of_wf hwf, expand, Option.map_some, Option.map_some, l2Accesses_seeded, List.map_cons,
      map_access_map_writeCommand]
    rfl

/-! ### Reading a word and an operand (R66) -/

theorem dropWhile_isBlank_of_head {text : List Char} (h : ∀ ch ∈ text.head?, isBlank ch = false) :
    text.dropWhile isBlank = text := by
  cases text with
  | nil => rfl
  | cons ch rest => exact List.dropWhile_cons_of_neg (by simp [h ch rfl])

/-- A text with no blank at either end is its own trim. -/
theorem trimBlanks_of_ends {text : List Char} (hfirst : ∀ ch ∈ text.head?, isBlank ch = false)
    (hlast : ∀ ch ∈ text.getLast?, isBlank ch = false) : trimBlanks text = text := by
  have hrev : ∀ ch ∈ text.reverse.head?, isBlank ch = false := by rwa [List.head?_reverse]
  rw [trimBlanks, dropWhile_isBlank_of_head hfirst, dropWhile_isBlank_of_head hrev, List.reverse_reverse]

theorem trimBlanks_of_forall {text : List Char} (h : ∀ ch ∈ text, isBlank ch = false) : trimBlanks text = text :=
  trimBlanks_of_ends (fun ch hch => h ch (List.mem_of_head? hch)) (fun ch hch => h ch (List.mem_of_getLast? hch))

/-- A word, a blank and an operand are read as the statement of the word in capitals, with that operand. -/
theorem parseLine_word_operand {word operand : List Char} (hword : ∀ ch ∈ word, isBlank ch = false)
    (hoperand : ∀ ch ∈ operand, isBlank ch = false) (hw : word ≠ []) (ho : operand ≠ []) :
    parseLine (word ++ ' ' :: operand) = parseStatement (word.map Char.toUpper) operand := by
  have hline : trimBlanks (word ++ ' ' :: operand) = word ++ ' ' :: operand := by
    refine trimBlanks_of_ends (fun ch hch => hword ch ?_) (fun ch hch => hoperand ch ?_)
    · rw [List.head?_append_of_ne_nil _ hw] at hch
      exact List.mem_of_head? hch
    · rw [List.getLast?_append_of_ne_nil _ (List.cons_ne_nil _ _), List.getLast?_cons_of_ne_nil ho] at hch
      exact List.mem_of_getLast? hch
  have htake : (word ++ ' ' :: operand).takeWhile (fun ch => !isBlank ch) = word := by
    rw [List.takeWhile_append_of_pos (by simpa using hword)]
    simp [isBlank]
  have hdrop : (word ++ ' ' :: operand).dropWhile (fun ch => !isBlank ch) = ' ' :: operand := by
    rw [List.dropWhile_append_of_pos (by simpa using hword)]
    simp [isBlank]
  have htrim : trimBlanks (' ' :: operand) = operand := trimBlanks_of_forall hoperand
  simp only [parseLine, hline, htake, hdrop, htrim]

/-! ### Numbers in hexadecimal (R70) -/

theorem isBlank_hexDigit : ∀ n : BitVec 4, isBlank (hexDigit n) = false := by decide

theorem digitValue_hexDigit : ∀ n : BitVec 4, digitValue (hexDigit n) = some n.toNat := by decide

theorem isBlank_of_mem_hexByte {byte : Byte} {ch : Char} (h : ch ∈ hexByte byte) : isBlank ch = false := by
  simp only [hexByte, List.mem_cons, List.not_mem_nil, or_false] at h
  obtain rfl | rfl | rfl | rfl := h
  · rfl
  · rfl
  · exact isBlank_hexDigit _
  · exact isBlank_hexDigit _

theorem digitsValue_hexDigit (value : Nat) (n : BitVec 4) (rest : List Char) :
    digitsValue 16 value (hexDigit n :: rest) = digitsValue 16 (16 * value + n.toNat) rest := by
  simp only [digitsValue, digitValue_hexDigit, if_pos n.isLt]

theorem parseImm_hexByte (byte : Byte) : parseImm (hexByte byte) = some (byte.toNat : Int) := by
  have hvalue : 16 * (16 * 0 + (byte.extractLsb' 4 4).toNat) + (byte.extractLsb' 0 4).toNat = byte.toNat := by
    have hlt := byte.isLt
    simp only [BitVec.extractLsb'_toNat, Nat.shiftRight_eq_div_pow]
    omega
  have htrim : trimBlanks (hexByte byte) = hexByte byte := trimBlanks_of_forall fun _ => isBlank_of_mem_hexByte
  have hmagnitude : parseMagnitude (hexByte byte) = some byte.toNat := by
    calc parseMagnitude (hexByte byte)
        = digitsValue 16 0 [hexDigit (byte.extractLsb' 4 4), hexDigit (byte.extractLsb' 0 4)] := rfl
      _ = some byte.toNat := by rw [digitsValue_hexDigit, digitsValue_hexDigit, hvalue, digitsValue]
  calc parseImm (hexByte byte) = (parseMagnitude (hexByte byte)).map Int.ofNat := by rw [parseImm, htrim]; rfl
    _ = some (byte.toNat : Int) := by rw [hmagnitude]; rfl

/-! ### The disassembly of a legal word (R70) -/

/-- The line of source that the text of a command spells. -/
def sourceLine : Instr → AsmLine
  | .nop => .nop
  | .oaatStart => .oaatStart
  | .oaatByte byte => .oaatByte byte.toNat
  | .oaatFinish => .oaatFinish
  | .l2Start false => .l2Start none
  | .l2Start true => .l2Start (some 1)
  | .l2Byte byte => .l2Byte byte.toNat
  | .l2Finish => .l2Finish
  | .mix => .mix
  | .clrErr => .clrErr

/-- A word in capitals and a byte in hexadecimal. -/
theorem parseLine_word_hexByte {word : List Char} (hword : ∀ ch ∈ word, isBlank ch = false) (hw : word ≠ [])
    (hupper : word.map Char.toUpper = word) (byte : Byte) :
    parseLine (word ++ ' ' :: hexByte byte) = parseStatement word (hexByte byte) := by
  rw [parseLine_word_operand hword (fun _ => isBlank_of_mem_hexByte) hw (by simp [hexByte]), hupper]

theorem parseLine_commandText_oaatByte (byte : Byte) :
    parseLine (commandText (.oaatByte byte)) = (parseImm (hexByte byte)).map .oaatByte :=
  parseLine_word_hexByte (word := ['O', 'A', 'A', 'T', '_', 'B', 'Y', 'T', 'E']) (by simp [isBlank])
    (List.cons_ne_nil _ _) rfl byte

theorem parseLine_commandText_l2Byte (byte : Byte) :
    parseLine (commandText (.l2Byte byte)) = (parseImm (hexByte byte)).map .l2Byte :=
  parseLine_word_hexByte (word := ['L', '2', '_', 'B', 'Y', 'T', 'E']) (by simp [isBlank])
    (List.cons_ne_nil _ _) rfl byte

theorem parseLine_commandText (i : Instr) : parseLine (commandText i) = some (sourceLine i) := by
  cases i with
  | oaatByte byte => rw [parseLine_commandText_oaatByte, parseImm_hexByte, Option.map_some, sourceLine]
  | l2Byte byte => rw [parseLine_commandText_l2Byte, parseImm_hexByte, Option.map_some, sourceLine]
  | l2Start s => cases s <;> decide
  | _ => decide

theorem imm8Wf_toNat (byte : Byte) : imm8Wf byte.toNat = true := by
  have hlt := byte.isLt
  simp only [imm8Wf, Bool.and_eq_true, decide_eq_true_eq]
  omega

theorem imm8Byte_toNat (byte : Byte) : imm8Byte byte.toNat = byte := by
  rw [imm8Byte, BitVec.ofInt_natCast, BitVec.ofNat_toNat, BitVec.setWidth_eq]

theorem sourceLine_wf (i : Instr) : (sourceLine i).wf = true := by
  cases i with
  | oaatByte byte | l2Byte byte => exact imm8Wf_toNat byte
  | l2Start s => cases s <;> rfl
  | _ => rfl

theorem expand_sourceLine (i : Instr) : expand (sourceLine i) = [writeCommand i] := by
  cases i with
  | oaatByte byte | l2Byte byte => rw [sourceLine, expand, imm8Byte_toNat]
  | l2Start s => cases s <;> rfl
  | _ => rfl

theorem disassemble_of_decode {v : Word} {i : Instr} (h : decode v = .legal i) : disassemble v = commandText i := by
  rw [disassemble, h]

/-- Settles O6: the text of a command is read as its line, which expands to the write of its word. -/
theorem disassemblyReassembles : Obligations.DisassemblyReassembles := by
  unfold Obligations.DisassemblyReassembles
  intro v i h
  calc assembleText (disassemble v) = assemble (sourceLine i) := by
        rw [disassemble_of_decode h, assembleText, parseLine_commandText, Option.bind_some]
    _ = some [writeCommand i] := by rw [assemble_of_wf (sourceLine_wf i), expand_sourceLine]
    _ = some [cmdWrite v] := by rw [writeCommand, encode_eq_of_decode h]

end Sys2Proof.Machine
end

section
/-!
The Mixing Function and the `MIX` command (40_mix.md R71, R78): the b-shift of each variant as the choice R71 writes it,
and the command as an effect of `IDLE` only.
-/

namespace Sys2Proof.Machine

/-- The variant decides the direction of the b-shift and nothing else (40_mix.md R71, R73). -/
theorem bShift_eq_ite (config : Config) (x : Word) (n : Nat) :
    bShift config x n = if config.mixBShift = .right then x >>> n else x <<< n := by
  unfold bShift
  cases config.mixBShift <;> rfl

/-- Settles O32: three rounds of three sub-steps; the spec's chain of reassignments is the three rounds run in turn, and
the direction of the b-shifts is `bShift_eq_ite`. -/
theorem mixIsNineSubsteps : Obligations.MixIsNineSubsteps := by
  unfold Obligations.MixIsNineSubsteps
  intro config a b c
  simp only [mixWords, mixRound, bShift_eq_ite]

/-- `MIX` runs in `IDLE` only (40_mix.md R79). -/
theorem exec_mix (s : State) : exec .mix s = runInMode .idle (Engine.mixRegisters s.config) s := rfl

/-- Settles O29: in `IDLE` the command has its effect, the Mixing Function of the three registers; in the other modes it
is rejected like every command of one mode. -/
theorem mixCommandMixesTheWords : Obligations.MixCommandMixesTheWords := by
  unfold Obligations.MixCommandMixesTheWords
  refine ⟨decode_encode .mix, fun s hidle => ?accepted, fun s hbusy => ?rejected⟩
  case accepted =>
    rw [exec_mix, runInMode_accepted _ _ _ hidle, Engine.mixRegisters_eq]
    rfl
  case rejected => rw [exec_mix, runInMode_rejected _ _ _ hbusy]

end Sys2Proof.Machine
end

section
/-!
The OAAT engine (41_oaat.md): its arithmetic on signed integers (R80), zero bytes (R86, R87), its three commands (R81,
R82, R84), and the session they make up (R85).
-/

namespace Sys2Proof.Machine

/-! ### The algorithm (R80, R86, R87) -/

theorem add_signExtend_eq_ofInt {v w : Nat} (x : BitVec w) (y : BitVec v) :
    x + y.signExtend w = BitVec.ofInt w (x.toInt + y.toInt) := by
  rw [BitVec.ofInt_add, BitVec.ofInt_toInt]
  rfl

theorem add_shiftLeft_eq_ofInt {w : Nat} (x : BitVec w) (k : Nat) :
    x + x <<< k = BitVec.ofInt w (x.toInt + x.toInt * 2 ^ k) := by
  have hpow : BitVec.ofInt w (2 ^ k) = BitVec.twoPow w k := by
    apply BitVec.eq_of_toNat_eq
    rw [BitVec.toNat_twoPow, BitVec.toNat_ofInt]
    norm_cast
  rw [BitVec.ofInt_add, BitVec.ofInt_mul, BitVec.ofInt_toInt, hpow, BitVec.shiftLeft_eq_mul_twoPow]

theorem sshiftRight_eq_ofInt {w : Nat} (x : BitVec w) (k : Nat) :
    x.sshiftRight k = BitVec.ofInt w (x.toInt / 2 ^ k) := by
  rw [BitVec.sshiftRight, Int.shiftRight_eq_div_pow, Nat.cast_pow, Nat.cast_ofNat]

/-- Settles O34: every operation of the two functions is one on the signed readings, wrapped. -/
theorem oaatArithmeticIsSigned : Obligations.OaatArithmeticIsSigned := by
  unfold Obligations.OaatArithmeticIsSigned
  refine ⟨fun acc byte => ?step, fun acc => ?final, fun m => rfl⟩
  case step =>
    simp only [oaatStep, sext32, add_signExtend_eq_ofInt, add_shiftLeft_eq_ofInt, sshiftRight_eq_ofInt]
    rfl
  case final =>
    simp only [oaatFinal, add_shiftLeft_eq_ofInt, sshiftRight_eq_ofInt]
    rfl

/-- Zero bytes leave the accumulator of a new session at 0. -/
theorem foldl_oaatStep_replicate_zero (n : Nat) : (List.replicate n (0 : Byte)).foldl oaatStep 0 = 0 := by
  have hstep : oaatStep 0 0 = 0 := by decide
  induction n with
  | zero => rfl
  | succ n ih => rw [List.replicate_succ, List.foldl_cons, hstep, ih]

theorem oaatHash_replicate_zero_append (n : Nat) (m : List Byte) :
    oaatHash (List.replicate n 0 ++ m) = oaatHash m := by
  rw [oaatHash, List.foldl_append, foldl_oaatStep_replicate_zero, oaatHash]

/-- Settles O35: the accumulator is still 0 when the zero bytes have been absorbed, and `OaatFinal` keeps 0. -/
theorem leadingZeroBytesDoNotChangeOaat : Obligations.LeadingZeroBytesDoNotChangeOaat := by
  unfold Obligations.LeadingZeroBytesDoNotChangeOaat
  have hempty : oaatHash [] = 0 := by decide
  refine ⟨hempty, fun n => ?zeros, oaatHash_replicate_zero_append⟩
  case zeros => rw [← List.append_nil (List.replicate n 0), oaatHash_replicate_zero_append, hempty]

/-! ### The three commands (R81, R82, R84) -/

theorem exec_oaatStart (s : State) : exec .oaatStart s = runEffect Engine.startOaat s := rfl

theorem exec_oaatByte (byte : Byte) (s : State) :
    exec (.oaatByte byte) s = runInMode .oaat (Engine.absorbOaat byte) s := rfl

theorem exec_oaatFinish (s : State) : exec .oaatFinish s = runInMode .oaat Engine.finishOaat s := rfl

/-- A word that matches a row of format B is the row's `OPC` with the word's own byte. -/
theorem formatB_byteField {v : Word} {opc : BitVec 8} (h : v &&& 0xFFFFFF00 = formatB opc 0) :
    formatB opc (byteField v) = v := by
  obtain ⟨byte, rfl⟩ := (exists_formatB_eq_iff v opc).2 h
  have hbyte : byteField (formatB opc byte) = byte := BitVec.extractLsb'_append_eq_right
  rw [hbyte]

/-- Settles O23: the command has its effect with no look at the mode. -/
theorem oaatStartOpensASession : Obligations.OaatStartOpensASession := by
  unfold Obligations.OaatStartOpensASession
  refine ⟨decode_encode .oaatStart, fun s => ?opens⟩
  case opens =>
    rw [exec_oaatStart, runEffect_eq]
    rfl

/-- Settles O24: a word of the row is the word of the command with its byte; the command is one of `OAAT` only. -/
theorem oaatByteAbsorbsOneByte : Obligations.OaatByteAbsorbsOneByte := by
  unfold Obligations.OaatByteAbsorbsOneByte
  refine ⟨fun v hrow => ?decodes, fun byte s hopen => ?accepted, fun byte s hclosed => ?rejected⟩
  case decodes => exact decode_eq_legal_iff.2 (formatB_byteField hrow)
  case accepted =>
    rw [exec_oaatByte, runInMode_accepted _ _ _ hopen]
    rfl
  case rejected => rw [exec_oaatByte, runInMode_rejected _ _ _ hclosed]

/-- Settles O25: the command is one of `OAAT` only. -/
theorem oaatFinishDeliversTheResult : Obligations.OaatFinishDeliversTheResult := by
  unfold Obligations.OaatFinishDeliversTheResult
  refine ⟨decode_encode .oaatFinish, fun s hopen => ?accepted, fun s hclosed => ?rejected⟩
  case accepted =>
    rw [exec_oaatFinish, runInMode_accepted _ _ _ hopen]
    rfl
  case rejected => rw [exec_oaatFinish, runInMode_rejected _ _ _ hclosed]

/-! ### A session (R85) -/

/-- An OAAT session opened on the engine `before`, which has taken the bytes of `m` with no error. -/
structure OaatOpen (before : Engine) (m : List Byte) (e : Engine) : Prop where
  mode : e.mode = .oaat
  acc : e.acc = m.foldl oaatStep 0
  len : e.len = BitVec.ofNat 32 m.length
  err : e.err = before.err
  errcode : e.errcode = before.errcode

/-- What a completed OAAT session over `m` leaves (41_oaat.md R85). -/
structure OaatDelivered (before : Engine) (m : List Byte) (e : Engine) : Prop where
  result : e.result = oaatHash m
  acc : e.acc = oaatHash m
  len : e.len = BitVec.ofNat 32 m.length
  mode : e.mode = .idle
  done : e.done = true
  err : e.err = before.err
  errcode : e.errcode = before.errcode

section OaatSession
variable {before e : Engine} {m : List Byte}

theorem oaatOpen_startOaat (herr : e.err = before.err) (hcode : e.errcode = before.errcode) :
    OaatOpen before [] e.startOaat :=
  ⟨rfl, rfl, rfl, herr, hcode⟩

theorem OaatOpen.setSeed (h : OaatOpen before m e) (v : Word) : OaatOpen before m (e.setSeed v) :=
  ⟨h.mode, h.acc, h.len, h.err, h.errcode⟩

theorem OaatOpen.absorbOaat (h : OaatOpen before m e) (byte : Byte) :
    OaatOpen before (m ++ [byte]) (e.absorbOaat byte) where
  mode := (e.absorbOaat_mode byte).trans h.mode
  acc := by simp [h.acc]
  len := by simp [h.len, BitVec.ofNat_add]
  err := (e.absorbOaat_err byte).trans h.err
  errcode := (e.absorbOaat_errcode byte).trans h.errcode

theorem OaatOpen.finishOaat (h : OaatOpen before m e) : OaatDelivered before m e.finishOaat where
  result := by rw [Engine.finishOaat_result, h.acc, oaatHash]
  acc := by rw [Engine.finishOaat_acc, h.acc, oaatHash]
  len := e.finishOaat_len.trans h.len
  mode := e.finishOaat_mode
  done := e.finishOaat_done
  err := e.finishOaat_err.trans h.err
  errcode := e.finishOaat_errcode.trans h.errcode

theorem OaatDelivered.setSeed (h : OaatDelivered before m e) (v : Word) : OaatDelivered before m (e.setSeed v) :=
  ⟨h.result, h.acc, h.len, h.mode, h.done, h.err, h.errcode⟩

/-- How far a session over `m` has come: the commands still to come, and the engine that waits for them. -/
inductive OaatStage (before : Engine) (m : List Byte) : List Instr → Engine → Prop
  | unopened {e : Engine} (herr : e.err = before.err) (hcode : e.errcode = before.errcode) :
      OaatStage before m (oaatSession m) e
  | opened {e : Engine} {taken left : List Byte} (hm : taken ++ left = m) (hopen : OaatOpen before taken e) :
      OaatStage before m (left.map .oaatByte ++ [.oaatFinish]) e
  | delivered {e : Engine} (h : OaatDelivered before m e) : OaatStage before m [] e

theorem OaatStage.setSeed {cs : List Instr} (h : OaatStage before m cs e) (v : Word) :
    OaatStage before m cs (e.setSeed v) := by
  cases h with
  | unopened herr hcode => exact .unopened herr hcode
  | opened hm hopen => exact .opened hm (hopen.setSeed v)
  | delivered h => exact .delivered (h.setSeed v)

/-- The next command takes the session to its next stage. -/
theorem OaatStage.afterCommand {i : Instr} {cs : List Instr} (h : OaatStage before m (i :: cs) e) (config : Config) :
    OaatStage before m cs (afterCommand config i e) := by
  generalize hcs : i :: cs = commands at h
  cases h with
  | unopened herr hcode =>
    cases hcs
    exact .opened (List.nil_append m) (oaatOpen_startOaat herr hcode)
  | @opened _ taken left hm hopen =>
    cases left with
    | nil =>
      cases hcs
      obtain rfl : taken = m := by simpa using hm
      simpa [Machine.afterCommand, hopen.mode] using OaatStage.delivered hopen.finishOaat
    | cons byte left =>
      cases hcs
      simpa [Machine.afterCommand, hopen.mode] using
        OaatStage.opened (by simpa using hm) (hopen.absorbOaat byte)
  | delivered h => cases hcs

theorem OaatStage.delivered_of_nil (h : OaatStage before m [] e) : OaatDelivered before m e := by
  generalize hcs : [] = commands at h
  cases h with
  | unopened herr hcode => cases hcs
  | opened hm hopen => simp at hcs
  | delivered h => exact h

end OaatSession

/-- Settles O54: the stream carries the commands of the session, and each takes it to its next stage. -/
theorem oaatSessionComputesTheHash : Obligations.OaatSessionComputesTheHash := by
  unfold Obligations.OaatSessionComputesTheHash
  intro s m events hr hcarries
  obtain ⟨t, hrun, -, -, hstage⟩ :=
    performAll_of_carries (config := s.config) (P := OaatStage s.engine m) (fun _ _ v h => h.setSeed v)
      (fun _ _ _ h => h.afterCommand s.config) events (oaatSession m) s rfl hr hcarries (.unopened rfl rfl)
  obtain ⟨hresult, hacc, hlen, hmode, hdone, herr, hcode⟩ := hstage.delivered_of_nil
  exact ⟨t, hrun, hresult, hacc, hlen, hmode, hdone, herr, hcode⟩

end Sys2Proof.Machine
end

section
/-!
The lookup2 hash as a function (40_mix.md R71, R75; 42_lookup2.md R92 to R103): the Mixing Function is one to one, the
two folds, the tail fold, the block loop, and what the hash of an input depends on.
-/

namespace Sys2Proof.Machine

/-! ### The Mixing Function is one to one (R71, R75) -/

/-- A sub-step can be undone from the two other words and the shifted word (40_mix.md R71). -/
theorem mixSubstep_left_inj {x y z t u : Word} : (x - z - t) ^^^ u = (y - z - t) ^^^ u ↔ x = y := by
  rw [BitVec.xor_left_inj, BitVec.sub_left_inj, BitVec.sub_left_inj]

/-- The sub-steps of a round are undone from the last one back. -/
theorem mixRound_injective (config : Config) (na nb nc : Nat) : Function.Injective (mixRound config na nb nc) := by
  rintro ⟨a, b, c⟩ ⟨a', b', c'⟩ h
  simp only [mixRound, Words3.mk.injEq] at h
  obtain ⟨ha, hb, hc⟩ := h
  rw [ha] at hb hc
  rw [hb, mixSubstep_left_inj] at hc
  subst hc
  rw [mixSubstep_left_inj] at hb
  subst hb
  rw [mixSubstep_left_inj] at ha
  subst ha
  rfl

theorem mixWords_injective (config : Config) : Function.Injective (mixWords config) :=
  (mixRound_injective config 3 10 15).comp <|
    (mixRound_injective config 12 16 5).comp (mixRound_injective config 13 8 13)

theorem mixRound_zero (config : Config) (na nb nc : Nat) :
    mixRound config na nb nc { a := 0, b := 0, c := 0 } = { a := 0, b := 0, c := 0 } := by
  have hshift : bShift config 0#32 nb = 0#32 := by
    unfold bShift
    cases config.mixBShift <;> simp
  simp [mixRound, hshift]

/-- Settles O33: each round is one to one and keeps the zero words, so the three rounds in turn do. -/
theorem mixIsInjective : Obligations.MixIsInjective := by
  unfold Obligations.MixIsInjective
  refine fun config => ⟨mixWords_injective config, ?zero⟩
  case zero => rw [mixWords, mixRound_zero, mixRound_zero, mixRound_zero]

/-! ### The folds (R94, R96, R99) -/

/-- An OR of words that share no bits is their sum. -/
theorem toNat_or_shiftLeft {w : Nat} (x y : BitVec w) (n : Nat) (hx : x.toNat < 2 ^ n) (hy : 2 ^ n * y.toNat < 2 ^ w) :
    (x ||| y <<< n).toNat = x.toNat + 2 ^ n * y.toNat := by
  have hshift : (y <<< n).toNat = y.toNat <<< n := by
    rw [BitVec.toNat_shiftLeft, Nat.mod_eq_of_lt (by rwa [Nat.shiftLeft_eq, mul_comm])]
  rw [BitVec.toNat_or, hshift, Nat.or_comm, ← Nat.shiftLeft_add_eq_or_of_lt hx, Nat.shiftLeft_eq, mul_comm, add_comm]

theorem toNat_zext32 (k : Byte) : (zext32 k).toNat = k.toNat := BitVec.toNat_setWidth_of_le (by decide)

/-- The corrected fold is little-endian and unsigned (42_lookup2.md R96). -/
theorem toNat_foldCorrected (k0 k1 k2 k3 : Byte) :
    (foldCorrected k0 k1 k2 k3).toNat = k0.toNat + 256 * k1.toNat + 65536 * k2.toNat + 16777216 * k3.toNat := by
  have h0 := k0.isLt
  have h1 := k1.isLt
  have h2 := k2.isLt
  have h3 := k3.isLt
  have h01 : (zext32 k0 ||| zext32 k1 <<< 8).toNat = k0.toNat + 256 * k1.toNat := by
    rw [toNat_or_shiftLeft] <;> simp only [toNat_zext32] <;> omega
  have h012 : (zext32 k0 ||| zext32 k1 <<< 8 ||| zext32 k2 <<< 16).toNat =
      k0.toNat + 256 * k1.toNat + 65536 * k2.toNat := by
    rw [toNat_or_shiftLeft] <;> simp only [h01, toNat_zext32] <;> omega
  rw [foldCorrected, toNat_or_shiftLeft] <;> simp only [h012, toNat_zext32] <;> omega

theorem foldCorrected_eq_ofNat (k0 k1 k2 k3 : Byte) :
    foldCorrected k0 k1 k2 k3 =
      BitVec.ofNat 32 (k0.toNat + 256 * k1.toNat + 65536 * k2.toNat + 16777216 * k3.toNat) := by
  rw [← toNat_foldCorrected, BitVec.ofNat_toNat, BitVec.setWidth_eq]

theorem foldBytes_corrected {config : Config} (h : config.l2FoldMode = .corrected) (k0 k1 k2 k3 : Byte) :
    foldBytes config k0 k1 k2 k3 = foldCorrected k0 k1 k2 k3 := by
  rw [foldBytes, h]

theorem foldBytes_literal {config : Config} (h : config.l2FoldMode = .literal) (x y z w : Byte) :
    foldBytes config x y z w = foldLiteral x y z w := by
  rw [foldBytes, h]

/-- Settles O36: the four bytes share no bits, and a block step folds the three groups of the block. -/
theorem correctedFoldIsLittleEndian : Obligations.CorrectedFoldIsLittleEndian := by
  unfold Obligations.CorrectedFoldIsLittleEndian
  refine ⟨fun k0 k1 k2 k3 => ⟨rfl, toNat_foldCorrected k0 k1 k2 k3⟩,
    fun config h => ⟨foldBytes_corrected h, fun w k => ?block⟩⟩
  case block => simp only [blockStep, foldBytes_corrected h, foldCorrected_eq_ofNat]

/-- The three shifts of the literal fold add up (42_lookup2.md R99). -/
theorem foldLiteral_eq_ofNat (x y z w : Byte) :
    foldLiteral x y z w = BitVec.ofNat 32 ((x.toNat + y.toNat) * 2 ^ (48 + z.toNat + w.toNat)) := by
  have hshifts : 8 + z.toNat + (16 + w.toNat + 24) = 48 + z.toNat + w.toNat := by omega
  rw [foldLiteral, ← Nat.shiftLeft_add, ← Nat.shiftLeft_add, hshifts, Nat.shiftLeft_eq]

/-- The shifts amount to at least 48, so 2^32 divides the literal fold. -/
theorem foldLiteral_eq_zero (x y z w : Byte) : foldLiteral x y z w = 0 := by
  have hdvd : 2 ^ 32 ∣ (x.toNat + y.toNat) * 2 ^ (48 + z.toNat + w.toNat) :=
    (pow_dvd_pow 2 (by omega)).mul_left _
  rw [foldLiteral_eq_ofNat]
  exact BitVec.eq_of_toNat_eq (by rw [BitVec.toNat_ofNat, Nat.mod_eq_zero_of_dvd hdvd]; rfl)

theorem blockStep_literal {config : Config} (h : config.l2FoldMode = .literal) (w : Words3) (k : Vector Byte 12) :
    blockStep config w k = mixWords config w := by
  simp only [blockStep, foldBytes_literal h, foldLiteral_eq_zero, add_zero]

/-- Settles O37: the literal fold is a multiple of 2^48, so a block adds 0 to each word. -/
theorem literalFoldIsZero : Obligations.LiteralFoldIsZero := by
  unfold Obligations.LiteralFoldIsZero
  exact ⟨fun x y z w => ⟨foldLiteral_eq_ofNat x y z w, foldLiteral_eq_zero x y z w⟩,
    fun config w k h => ⟨foldBytes_literal h, blockStep_literal h w k⟩⟩

/-! ### The tail fold (R98) -/

/-- The addition of tail byte `i`, where the tail has one (42_lookup2.md R98). -/
def addTailAt (t : List Byte) (i : Nat) (w : Words3) : Words3 :=
  if i < t.length then addTailByte i (t.getD i 0) w else w

/-- The tail fold from `t[i]` on adds the bytes after `t[i]`, then `t[i]`. -/
theorem tailFoldFrom_drop (t : List Byte) (i : Nat) (w : Words3) :
    tailFoldFrom i (t.drop i) w = addTailAt t i (tailFoldFrom (i + 1) (t.drop (i + 1)) w) := by
  by_cases hi : i < t.length
  · rw [List.drop_eq_getElem_cons hi, tailFoldFrom, addTailAt, if_pos hi, List.getD_eq_getElem _ _ hi]
  · rw [List.drop_eq_nil_of_le (by omega), List.drop_eq_nil_of_le (by omega), addTailAt, if_neg hi]
    rfl

theorem tailFold_eq_addTailAt {t : List Byte} (h : t.length ≤ 11) (w : Words3) :
    tailFold w t =
      addTailAt t 0 (addTailAt t 1 (addTailAt t 2 (addTailAt t 3 (addTailAt t 4 (addTailAt t 5 (addTailAt t 6
        (addTailAt t 7 (addTailAt t 8 (addTailAt t 9 (addTailAt t 10 w)))))))))) := by
  have hend : tailFoldFrom 11 (t.drop 11) w = w := by rw [List.drop_eq_nil_of_le h]; rfl
  have hstart : tailFold w t = tailFoldFrom 0 (t.drop 0) w := rfl
  rw [hstart]
  iterate 11 rw [tailFoldFrom_drop]
  rw [hend]

section ConditionalUpdate
variable (p : Prop) [Decidable p] (a b c d : Word)

theorem Words3.ite_a : (if p then (⟨d, b, c⟩ : Words3) else ⟨a, b, c⟩) = ⟨if p then d else a, b, c⟩ := by
  split <;> rfl

theorem Words3.ite_b : (if p then (⟨a, d, c⟩ : Words3) else ⟨a, b, c⟩) = ⟨a, if p then d else b, c⟩ := by
  split <;> rfl

theorem Words3.ite_c : (if p then (⟨a, b, d⟩ : Words3) else ⟨a, b, c⟩) = ⟨a, b, if p then d else c⟩ := by
  split <;> rfl

end ConditionalUpdate

/-- Settles O38: the eleven additions in turn, each of which changes one word. -/
theorem tailFoldPlacesEachByte : Obligations.TailFoldPlacesEachByte := by
  unfold Obligations.TailFoldPlacesEachByte
  intro a b c t h
  rw [tailFold_eq_addTailAt h]
  simp only [addTailAt, addTailByte, Words3.ite_a, Words3.ite_b, Words3.ite_c]
  rfl

/-! ### The hash of an input (R92, R99) -/

/-- Settles O39: the two equations of the block loop; `lookup2` is written as R92 writes it. -/
theorem lookup2ConsumesBlocksThenTail : Obligations.Lookup2ConsumesBlocksThenTail := by
  unfold Obligations.Lookup2ConsumesBlocksThenTail
  exact ⟨blockLoop_block, blockLoop_of_length_lt, fun config m seed => rfl⟩

/-- The input with its complete blocks replaced by zero bytes (42_lookup2.md R99). -/
def zeroBlocks (m : List Byte) : List Byte :=
  List.replicate (12 * (m.length / 12)) 0 ++ m.drop (12 * (m.length / 12))

@[simp] theorem length_zeroBlocks (m : List Byte) : (zeroBlocks m).length = m.length := by
  simp only [zeroBlocks, List.length_append, List.length_replicate, List.length_drop]
  omega

theorem zeroBlocks_of_length_lt {m : List Byte} (h : m.length < 12) : zeroBlocks m = m := by
  simp [zeroBlocks, Nat.div_eq_of_lt h]

theorem zeroBlocks_block (k : Vector Byte 12) (m : List Byte) :
    zeroBlocks (k.toList ++ m) = (Vector.replicate 12 0).toList ++ zeroBlocks m := by
  have hlen : 12 * ((k.toList ++ m).length / 12) = k.toList.length + 12 * (m.length / 12) := by simp; omega
  rw [zeroBlocks, hlen, List.drop_length_add_append, List.replicate_add, zeroBlocks, List.append_assoc]
  simp

/-- `L2_FOLD_MODE` does not reach the Mixing Function (40_mix.md R71). -/
theorem mixWords_foldMode (f g : FoldMode) (x : MixBShift) (w : Words3) :
    mixWords { l2FoldMode := f, mixBShift := x } w = mixWords { l2FoldMode := g, mixBShift := x } w := rfl

/-- Under `LITERAL` a block counts as twelve zero bytes under `CORRECTED`: both add nothing to the words. -/
theorem blockStep_literal_eq_zeros (x : MixBShift) (w : Words3) (k : Vector Byte 12) :
    blockStep { l2FoldMode := .literal, mixBShift := x } w k =
      blockStep { l2FoldMode := .corrected, mixBShift := x } w (Vector.replicate 12 0) := by
  have hzero : foldCorrected 0#8 0#8 0#8 0#8 = 0#32 := by decide
  rw [blockStep_literal rfl, mixWords_foldMode .literal .corrected, blockStep]
  simp [foldBytes_corrected, hzero]

theorem blockLoop_literal (x : MixBShift) (m : List Byte) (w : Words3) :
    blockLoop { l2FoldMode := .literal, mixBShift := x } w m =
      blockLoop { l2FoldMode := .corrected, mixBShift := x } w (zeroBlocks m) := by
  induction m using block_induction generalizing w with
  | hshort m h => rw [zeroBlocks_of_length_lt h, blockLoop_of_length_lt _ w m h, blockLoop_of_length_lt _ w m h]
  | hblock k m ih => rw [zeroBlocks_block, blockLoop_block, blockLoop_block, blockStep_literal_eq_zeros, ih]

/-- Settles O40: the block loops agree, and zeroing the blocks changes neither the length nor the tail. -/
theorem literalHashesBlocksAsZeros : Obligations.LiteralHashesBlocksAsZeros := by
  unfold Obligations.LiteralHashesBlocksAsZeros
  intro x m seed
  change _ = lookup2 _ (zeroBlocks m) seed
  rw [lookup2, lookup2, lookup2Words, lookup2Words, blockLoop_literal, length_zeroBlocks,
    mixWords_foldMode .literal .corrected]

/-! ### Different seeds (R103) -/

/-- The words with a word added to each. -/
def Words3.add (d w : Words3) : Words3 := { a := w.a + d.a, b := w.b + d.b, c := w.c + d.c }

theorem Words3.add_injective (d : Words3) : Function.Injective d.add := by
  rintro ⟨a, b, c⟩ ⟨a', b', c'⟩ h
  simpa [Words3.add] using h

theorem Words3.addLength_injective (len : Word) : Function.Injective (Words3.addLength · len) := by
  rintro ⟨a, b, c⟩ ⟨a', b', c'⟩ h
  simpa [Words3.addLength] using h

theorem startWords_injective : Function.Injective startWords := fun _ _ h => congrArg Words3.c h

theorem blockStep_injective (config : Config) (k : Vector Byte 12) :
    Function.Injective (blockStep config · k) :=
  (mixWords_injective config).comp (Words3.add_injective
    { a := foldBytes config k[0] k[1] k[2] k[3]
      b := foldBytes config k[4] k[5] k[6] k[7]
      c := foldBytes config k[8] k[9] k[10] k[11] })

theorem blockLoop_injective (config : Config) (m : List Byte) :
    Function.Injective fun w => (blockLoop config w m).1 := by
  induction m using block_induction with
  | hshort m h =>
    simp only [blockLoop_of_length_lt config _ m h]
    exact Function.injective_id
  | hblock k m ih =>
    simp only [blockLoop_block]
    exact ih.comp (blockStep_injective config k)

theorem addTailByte_injective (i : Nat) (byte : Byte) : Function.Injective (addTailByte i byte) := by
  rintro ⟨a, b, c⟩ ⟨a', b', c'⟩ h
  unfold addTailByte at h
  split at h <;> simpa using h

theorem tailFoldFrom_injective (i : Nat) (t : List Byte) : Function.Injective (tailFoldFrom i t) := by
  induction t generalizing i with
  | nil => exact Function.injective_id
  | cons byte rest ih => exact (addTailByte_injective i byte).comp (ih (i + 1))

/-- Every part of the hash is one to one in the words, and the tail does not depend on them. -/
theorem lookup2Words_injective (config : Config) (m : List Byte) : Function.Injective (lookup2Words config m) := by
  intro seed seed' h
  simp only [lookup2Words, blockLoop_tail] at h
  have htail := mixWords_injective config h
  have hlength := tailFoldFrom_injective 0 _ htail
  have hloop := Words3.addLength_injective _ hlength
  exact startWords_injective (blockLoop_injective config m hloop)

/-- Settles O41: the final triple is one to one in the seed. -/
theorem seedsGiveDifferentTriples : Obligations.SeedsGiveDifferentTriples := by
  unfold Obligations.SeedsGiveDifferentTriples
  exact fun config m seed seed' => (lookup2Words_injective config m).ne

end Sys2Proof.Machine
end

section
/-!
The three lookup2 commands (42_lookup2.md R93, R95, R97) and the session they make up (R100).
-/

namespace Sys2Proof.Machine

/-! ### The three commands (R93, R95, R97) -/

theorem exec_l2Start (seeded : Bool) (s : State) : exec (.l2Start seeded) s = runEffect (Engine.startL2 seeded) s := rfl

theorem exec_l2Byte (byte : Byte) (s : State) :
    exec (.l2Byte byte) s = runInMode .l2 (Engine.absorbL2 s.config byte) s := rfl

theorem exec_l2Finish (s : State) : exec .l2Finish s = runInMode .l2 (Engine.finishL2 s.config) s := rfl

/-- A word that matches a row of format S is the row's `OPC` with the word's own bit 0. -/
theorem formatS_seedSelectField {v : Word} {opc : BitVec 8} (h : v &&& 0xFFFFFFFE = formatS opc false) :
    formatS opc (seedSelectField v) = v := by
  obtain ⟨s, rfl⟩ := (exists_formatS_eq_iff v opc).2 h
  have hbit : seedSelectField (formatS opc s) = s := by
    rw [seedSelectField, formatS, BitVec.getLsbD_append]
    simp
  rw [hbit]

/-- Settles O26: a word of the row is the word of the command with its bit 0; the command has its effect with no look at
the mode. -/
theorem l2StartOpensASession : Obligations.L2StartOpensASession := by
  unfold Obligations.L2StartOpensASession
  refine ⟨fun v hrow => ?decodes, fun seeded s => ?opens⟩
  case decodes => exact decode_eq_legal_iff.2 (formatS_seedSelectField hrow)
  case opens =>
    rw [exec_l2Start, runEffect_eq]
    rfl

/-- Settles O27: a word of the row is the word of the command with its byte; the command is one of `L2` only, and the
byte is the last of its block or not. -/
theorem l2ByteTakesOneByte : Obligations.L2ByteTakesOneByte := by
  unfold Obligations.L2ByteTakesOneByte
  refine ⟨fun v hrow => ?decodes, fun byte s hopen hlt => ?buffered, fun byte s hopen hlast => ?folded,
    fun byte s hclosed => ?rejected⟩
  case decodes => exact decode_eq_legal_iff.2 (formatB_byteField hrow)
  case buffered =>
    have hroom : s.engine.bufcnt.val + 1 < 12 := by omega
    have hcount : s.engine.bufcnt + 1 = ⟨s.engine.bufcnt.val + 1, hroom⟩ :=
      Fin.ext (Fin.val_add_one_of_lt' hroom)
    rw [exec_l2Byte, runInMode_accepted _ _ _ hopen, Engine.absorbL2_of_lt _ _ _ hroom, hcount]
    rfl
  case folded =>
    have htaken : s.engine.takeByte byte =
        { s.engine with buf := s.engine.buf.set 11 byte, len := s.engine.len + 1 } := by
      simp [Engine.takeByte, hlast]
    rw [exec_l2Byte, runInMode_accepted _ _ _ hopen, Engine.absorbL2_of_last _ _ _ (by omega), htaken]
    rfl
  case rejected => rw [exec_l2Byte, runInMode_rejected _ _ _ hclosed]

/-- Settles O28: the command is one of `L2` only. -/
theorem l2FinishDeliversTheResult : Obligations.L2FinishDeliversTheResult := by
  unfold Obligations.L2FinishDeliversTheResult
  refine ⟨decode_encode .l2Finish, fun s hopen => ?accepted, fun s hclosed => ?rejected⟩
  case accepted =>
    rw [exec_l2Finish, runInMode_accepted _ _ _ hopen]
    rfl
  case rejected => rw [exec_l2Finish, runInMode_rejected _ _ _ hclosed]

/-! ### A session (R100) -/

/-- A lookup2 session opened on the engine `before` with the seed `seed`, which has taken the bytes of `m` with no
error. -/
structure L2Counted (config : Config) (before : Engine) (seed : Word) (m : List Byte) (e : Engine) : Prop where
  opened : L2Open config (startWords seed) before.result m e
  len : e.len = BitVec.ofNat 32 m.length
  err : e.err = before.err
  errcode : e.errcode = before.errcode

/-- What `L2Delivered` says of the engine after a session over `m` (42_lookup2.md R100). -/
structure L2Finished (config : Config) (before : Engine) (seed : Word) (m : List Byte) (e : Engine) : Prop where
  result : e.result = lookup2 config m seed
  c : e.c = e.result
  len : e.len = BitVec.ofNat 32 m.length
  mode : e.mode = .idle
  done : e.done = true
  bufcnt : e.bufcnt = 0
  err : e.err = before.err
  errcode : e.errcode = before.errcode

section L2Session
variable {config : Config} {before e : Engine} {seed : Word} {m : List Byte}

theorem l2Counted_startL2 (config : Config) (seeded : Bool) (e : Engine) :
    L2Counted config e (seedOperand seeded e.seed) [] (e.startL2 seeded) :=
  ⟨l2Open_startL2 seeded e, rfl, rfl, rfl⟩

theorem L2Counted.setSeed (h : L2Counted config before seed m e) (v : Word) :
    L2Counted config before seed m (e.setSeed v) :=
  ⟨h.opened.setSeed v, h.len, h.err, h.errcode⟩

theorem L2Counted.absorbL2 (h : L2Counted config before seed m e) (byte : Byte) :
    L2Counted config before seed (m ++ [byte]) (e.absorbL2 config byte) where
  opened := h.opened.absorbL2 byte
  len := by simp [h.len, BitVec.ofNat_add]
  err := (e.absorbL2_err config byte).trans h.err
  errcode := (e.absorbL2_errcode config byte).trans h.errcode

/-- `L2_FINISH` completes the hash of the bytes the session has taken (42_lookup2.md R92, R97). -/
theorem L2Counted.finalWords_eq (h : L2Counted config before seed m e) :
    e.finalWords config = lookup2Words config m seed := by
  rw [Engine.finalWords, lookup2Words, h.opened.looped, h.len]

theorem L2Counted.finishL2 (h : L2Counted config before seed m e) :
    L2Finished config before seed m (e.finishL2 config) where
  result := by rw [Engine.finishL2_result, h.finalWords_eq, lookup2]
  c := rfl
  len := (e.finishL2_len config).trans h.len
  mode := e.finishL2_mode config
  done := e.finishL2_done config
  bufcnt := e.finishL2_bufcnt config
  err := (e.finishL2_err config).trans h.err
  errcode := (e.finishL2_errcode config).trans h.errcode

theorem L2Finished.setSeed (h : L2Finished config before seed m e) (v : Word) :
    L2Finished config before seed m (e.setSeed v) :=
  ⟨h.result, h.c, h.len, h.mode, h.done, h.bufcnt, h.err, h.errcode⟩

/-- How far an open session over `m` has come: the commands still to come, and the engine that waits for them. -/
inductive L2Stage (config : Config) (before : Engine) (seed : Word) (m : List Byte) : List Instr → Engine → Prop
  | opened {e : Engine} {taken left : List Byte} (hm : taken ++ left = m)
      (hopen : L2Counted config before seed taken e) : L2Stage config before seed m (l2Input left) e
  | finished {e : Engine} (h : L2Finished config before seed m e) : L2Stage config before seed m [] e

theorem L2Stage.setSeed {cs : List Instr} (h : L2Stage config before seed m cs e) (v : Word) :
    L2Stage config before seed m cs (e.setSeed v) := by
  cases h with
  | opened hm hopen => exact .opened hm (hopen.setSeed v)
  | finished h => exact .finished (h.setSeed v)

/-- The next command takes the session to its next stage. -/
theorem L2Stage.afterCommand {i : Instr} {cs : List Instr} (h : L2Stage config before seed m (i :: cs) e) :
    L2Stage config before seed m cs (afterCommand config i e) := by
  generalize hcs : i :: cs = commands at h
  cases h with
  | @opened _ taken left hm hopen =>
    have hmode := hopen.opened.mode
    cases left with
    | nil =>
      cases hcs
      obtain rfl : taken = m := by simpa using hm
      have hstep : Machine.afterCommand config .l2Finish e = e.finishL2 config := if_pos hmode
      exact hstep ▸ .finished hopen.finishL2
    | cons byte left =>
      cases hcs
      have hstep : Machine.afterCommand config (.l2Byte byte) e = e.absorbL2 config byte := if_pos hmode
      exact hstep ▸ .opened (by simpa using hm) (hopen.absorbL2 byte)
  | finished h => cases hcs

theorem L2Stage.finished_of_nil (h : L2Stage config before seed m [] e) : L2Finished config before seed m e := by
  generalize hcs : [] = commands at h
  cases h with
  | opened hm hopen => simp [l2Input] at hcs
  | finished h => exact h

end L2Session

/-- A session from its START on: the stream carries the rest of its commands, and each takes it to its next stage. -/
theorem performAll_l2Session (s : State) (hr : s.needsReset = false) (seeded : Bool) {m : List Byte}
    {input : List BusEvent} (hcarries : carries input (l2Input m)) :
    ∃ t, performAll (commandEvent (.l2Start seeded) :: input) s = .next t ∧
      L2Delivered s t m (seedOperand seeded s.engine.seed) := by
  rw [performAll_cons _ input s _ (performEvent_commandEvent (.l2Start seeded) s hr)]
  obtain ⟨t, hrun, -, -, hstage⟩ :=
    performAll_of_carries (P := L2Stage s.config s.engine (seedOperand seeded s.engine.seed) m)
      (fun _ _ v h => h.setSeed v) (fun _ _ _ h => h.afterCommand) input (l2Input m)
      { s with engine := s.engine.startL2 seeded, response := some .writeDone } rfl hr hcarries
      (.opened (List.nil_append m) (l2Counted_startL2 s.config seeded s.engine))
  obtain ⟨hresult, hc, hlen, hmode, hdone, hbufcnt, herr, hcode⟩ := hstage.finished_of_nil
  exact ⟨t, hrun, hresult, hc, hlen, hmode, hdone, hbufcnt, herr, hcode⟩

/-- Settles O55: the write of `SEED` sets what a seeded START selects, and an unseeded one selects 0. -/
theorem lookup2SessionComputesTheHash : Obligations.Lookup2SessionComputesTheHash := by
  unfold Obligations.Lookup2SessionComputesTheHash
  intro s m input hr hcarries
  refine ⟨fun seed => ?seeded, ?unseeded⟩
  case seeded =>
    rw [performAll_access s (.write .w32 0x0C seed) _ hr rfl]
    exact performAll_l2Session
      { s with engine := s.engine.setSeed seed, response := some .writeDone } hr true hcarries
  case unseeded => exact performAll_l2Session s hr false hcarries

end Sys2Proof.Machine
end

section
/-!
The two commands of no hash engine (43_control.md R108, R109) and the table of the modes (R110): a command the mode does
not accept only records `BAD_SEQUENCE`, and of the accepted ones only `CLR_ERR` touches the error state.
-/

namespace Sys2Proof.Machine

/-! ### `NOP` and `CLR_ERR` (R108, R109) -/

theorem exec_nop (s : State) : exec .nop s = .next s := rfl

theorem exec_clrErr (s : State) : exec .clrErr s = clearErrorState s := rfl

/-- Settles O21: the word is that of `NOP`, whose execution is the identity. -/
theorem nopChangesNothing : Obligations.NopChangesNothing := by
  unfold Obligations.NopChangesNothing
  exact ⟨decode_encode .nop, exec_nop⟩

/-- Settles O22: the command is the return from an error, with no look at the mode. -/
theorem clrErrClearsTheErrorOnly : Obligations.ClrErrClearsTheErrorOnly := by
  unfold Obligations.ClrErrClearsTheErrorOnly
  refine ⟨decode_encode .clrErr, fun s => ?clears⟩
  case clears =>
    rw [exec_clrErr, clearErrorState_eq]
    rfl

/-! ### The table of the modes (R110) -/

/-- Only a command that runs in a single mode is ever rejected, and its one effect is then `BAD_SEQUENCE`
(60_exceptions.md R117). -/
theorem afterCommand_rejected {i : Instr} {e : Engine} (h : accepts e.mode i = false) (config : Config) :
    afterCommand config i e = e.recordError .badSequence := by
  cases i with
  | nop | oaatStart | l2Start | clrErr => simp [accepts] at h
  | oaatByte | oaatFinish | l2Byte | l2Finish | mix => exact if_neg (by simpa [accepts] using h)

/-- An accepted command raises no error, and only `CLR_ERR` clears one (43_control.md R112). -/
theorem afterCommand_accepted_keeps_error {i : Instr} {e : Engine} (h : accepts e.mode i = true) (hne : i ≠ .clrErr)
    (config : Config) :
    (afterCommand config i e).err = e.err ∧ (afterCommand config i e).errcode = e.errcode := by
  cases i with
  | clrErr => exact absurd rfl hne
  | nop | oaatStart | l2Start => simp [afterCommand]
  | oaatByte | oaatFinish | l2Byte | l2Finish | mix =>
    have hmode := eq_of_beq h
    simp [afterCommand, hmode]

/-- Settles O30: every command completes with its effect on the engine, which `afterCommand` gives; the two lemmas above
say what it is where the mode rejects the command and what it leaves alone where the mode accepts it. -/
theorem modesAcceptCommandsAsTabled : Obligations.ModesAcceptCommandsAsTabled := by
  unfold Obligations.ModesAcceptCommandsAsTabled
  refine ⟨fun i s h => ?rejected, fun i s h => ?accepted, fun v why s h => ?illegal⟩
  case rejected => rw [exec_eq, afterCommand_rejected h, withEngine_recordError]
  case accepted => exact ⟨_, exec_eq i s, fun hne => afterCommand_accepted_keeps_error h hne s.config⟩
  case illegal => exact execute_of_illegal h s

end Sys2Proof.Machine
end

section
/-!
The exceptions of the engine (60_exceptions.md): the error register keeps the first error (R116), an access that cannot
complete is a bus error (R132) or comes before reset (R131), and an OAAT session that ends with no error hashed exactly
the bytes sent (R123).
-/

namespace Sys2Proof.Machine

/-! ### The first error (R116) -/

/-- Settles O31: the two cases of recording an error. -/
theorem firstErrorIsKept : Obligations.FirstErrorIsKept := by
  unfold Obligations.FirstErrorIsKept
  intro code s
  rw [raiseError_eq, withEngine_recordError, errorRecorded]
  exact ⟨fun herr => by simp [herr], fun herr => by rw [if_pos herr]⟩

/-! ### Accesses that do not complete (R131, R132) -/

theorem accessWf_iff (width : AccessWidth) (off : Offset) :
    accessWf width off = true ↔ width = .w32 ∧ off.toNat % 4 = 0 := by
  simp [accessWf]

/-- Settles O17: the check of R37 is on the width and the offset, the same for a read and a write. -/
theorem accessCompletesOrIsABusError : Obligations.AccessCompletesOrIsABusError := by
  unfold Obligations.AccessCompletesOrIsABusError
  intro s width off v a hr ha
  have hwf : a.wf = accessWf width off := by obtain rfl | rfl := ha <;> rfl
  rw [← accessWf_iff, ← hwf]
  exact ⟨fun hw => ⟨_, performAccess_eq a s hr hw⟩,
    fun hw => performAccess_fault a s hr (Bool.eq_false_of_not_eq_true hw)⟩

/-- Settles O18: what a loss of power, an access before reset and a reset do. -/
theorem noAccessHasAMeaningBeforeReset : Obligations.NoAccessHasAMeaningBeforeReset := by
  unfold Obligations.NoAccessHasAMeaningBeforeReset
  refine ⟨fun s => ?powerLoss, fun s a hr => performAccess_beforeReset a s hr, fun s overlapping => ?reset⟩
  case powerLoss =>
    obtain ⟨e, k, hlose⟩ := losePower_spec s
    exact ⟨_, hlose, rfl, rfl⟩
  case reset =>
    obtain ⟨r, k, hreset⟩ := resetEngine_spec overlapping s
    exact ⟨_, hreset, rfl⟩

/-! ### A session whatever happens in it (R123) -/

theorem insideSession_wf {a : BusAccess} (h : insideSession (.access a) = true) : a.wf = true := by
  cases a with
  | read width off => exact h
  | write width off v => exact (Bool.and_eq_true_iff.1 h).1

/-- The one access that hands a byte to the OAAT engine is the write of the `OAAT_BYTE` word with that byte. -/
theorem oaatInput_access_eq_some_iff {a : BusAccess} (hw : a.wf = true) (byte : Byte) :
    oaatInput (.access a) = some byte ↔ a = cmdWrite (encode (.oaatByte byte)) := by
  constructor
  case mpr =>
    rintro rfl
    simp [oaatInput, cmdWrite, decode_encode]
  case mp =>
    intro h
    cases a with
    | read width off => simp [oaatInput] at h
    | write width off v =>
      obtain rfl := accessWf_width hw
      rw [oaatInput] at h
      split at h
      case isFalse => simp at h
      case isTrue hoff =>
        split at h
        case h_2 => simp at h
        case h_1 b hdecode =>
          obtain rfl : b = byte := by simpa using h
          rw [hoff, encode_eq_of_decode hdecode, cmdWrite]

/-- An OAAT session opened on the engine `before`, to which the bytes of `m` have been sent: it is still open, and if no
error is recorded it has taken just these bytes. -/
structure OaatSent (before : Engine) (m : List Byte) (e : Engine) : Prop where
  mode : e.mode = .oaat
  clean : e.err = false → OaatOpen before m e

section SentBytes
variable {before e : Engine} {m : List Byte}

theorem OaatSent.recordError (h : OaatSent before m e) (n : List Byte) (code : ErrCode) :
    OaatSent before n (e.recordError code) where
  mode := (e.recordError_mode code).trans h.mode
  clean herr := absurd herr (by simp)

theorem OaatSent.setSeed (h : OaatSent before m e) (v : Word) : OaatSent before m (e.setSeed v) :=
  ⟨h.mode, fun herr => (h.clean herr).setSeed v⟩

theorem OaatSent.absorbOaat (h : OaatSent before m e) (byte : Byte) :
    OaatSent before (m ++ [byte]) (e.absorbOaat byte) :=
  ⟨h.mode, fun herr => (h.clean herr).absorbOaat byte⟩

/-- An access that hands over no byte leaves the session alone or records an error: a lookup2 byte or finish, `MIX` and
a write of a word have no other effect in `OAAT`. -/
theorem OaatSent.of_move_of_no_input {config : Config} {a : BusAccess} {f : Engine} (h : OaatSent before m e)
    (hin : insideSession (.access a) = true) (hnone : oaatInput (.access a) = none)
    (hmove : AccessMove config e a f) : OaatSent before m f := by
  cases hmove with
  | keep => exact h
  | recordError _ code => exact h.recordError m code
  | writeSeed v => exact h.setSeed v
  | oaatByte byte =>
    rw [(oaatInput_access_eq_some_iff rfl byte).2 rfl] at hnone
    exact absurd hnone (by simp)
  | oaatStart | oaatFinish | l2Start | clrErr => simp [insideSession, cmdWrite, decode_encode] at hin
  | writeWord _ _ _ _ hm | l2Byte _ hm | l2Finish hm | mix hm => exact absurd (h.mode.symm.trans hm) (by decide)

/-- One access inside the session sends its byte, if it carries one. -/
theorem OaatSent.afterAccess {a : BusAccess} (h : OaatSent before m e) (hin : insideSession (.access a) = true)
    (config : Config) :
    OaatSent before (m ++ (oaatInput (.access a)).toList) (afterAccess config a e) := by
  have hw := insideSession_wf hin
  cases hinput : oaatInput (.access a) with
  | none =>
    rw [Option.toList_none, List.append_nil]
    exact h.of_move_of_no_input hin hinput (afterAccess_move config a e hw)
  | some byte =>
    obtain rfl := (oaatInput_access_eq_some_iff hw byte).1 hinput
    have heffect : Machine.afterAccess config (cmdWrite (encode (.oaatByte byte))) e = e.absorbOaat byte :=
      (afterWord_of_decode (decode_encode _) config e).trans (if_pos h.mode)
    exact heffect ▸ h.absorbOaat byte

theorem OaatSent.performAll {s : State} (h : OaatSent before m s.engine) (hr : s.needsReset = false)
    (inside : List BusEvent) (hin : ∀ event ∈ inside, insideSession event = true) :
    ∃ t, performAll inside s = .next t ∧ t.needsReset = false ∧
      OaatSent before (m ++ inside.filterMap oaatInput) t.engine := by
  induction inside generalizing s m with
  | nil => exact ⟨s, rfl, hr, by simpa using h⟩
  | cons event rest ih =>
    obtain ⟨hevent, hrest⟩ := List.forall_mem_cons.1 hin
    cases event with
    | access a =>
      have hsent : m ++ (.access a :: rest).filterMap oaatInput =
          m ++ (oaatInput (.access a)).toList ++ rest.filterMap oaatInput := by
        rw [List.filterMap_cons, List.append_assoc]
        cases oaatInput (.access a) <;> rfl
      rw [performAll_access s a rest hr (insideSession_wf hevent), hsent]
      exact ih (h.afterAccess hevent s.config) hr hrest
    | reset overlapping => exact absurd hevent (by simp [insideSession])
    | powerLoss => exact absurd hevent (by simp [insideSession])

end SentBytes

/-- Settles O57: each access between the start and the finish sends its byte or none, so an open session comes to its
finish; nothing in it clears an error, so `ERR` = 0 at the end says that every byte sent was taken. -/
theorem cleanOaatSessionHashedWhatWasSent : Obligations.CleanOaatSessionHashedWhatWasSent := by
  unfold Obligations.CleanOaatSessionHashedWhatWasSent
  intro s inside hr _ hin
  have hstart : OaatSent s.engine [] s.engine.startOaat := ⟨rfl, fun _ => oaatOpen_startOaat rfl rfl⟩
  obtain ⟨t, hrun, hrt, hsent⟩ := OaatSent.performAll
    (s := { s with engine := s.engine.startOaat, response := some .writeDone }) hstart hr inside hin
  have hfinish : afterCommand t.config .oaatFinish t.engine = t.engine.finishOaat := if_pos hsent.mode
  rw [performAll_cons _ _ s _ (performEvent_commandEvent .oaatStart s hr), afterCommand,
    performAll_append inside _ _ t hrun, performAll_cons _ _ t _ (performEvent_commandEvent .oaatFinish t hrt), hfinish]
  exact ⟨_, rfl, t.engine.finishOaat_done, fun herr => (hsent.clean herr).finishOaat.result⟩

end Sys2Proof.Machine
end

section
/-!
Waiting for the host (70_reset_and_hazards.md section 1, R134): the engine does nothing of its own accord.
-/

namespace Sys2Proof.Machine

/-- Settles O9: a step changes the state only by performing an event, and an empty stream has none (R134, log 5). -/
theorem engineWaitsForTheHost : Obligations.EngineWaitsForTheHost := by
  unfold Obligations.EngineWaitsForTheHost
  exact step_nil

end Sys2Proof.Machine
end
